-- ==== Sys2Proof/Word.lean ====
section
/-! DEFINITION. The word types of WL-MCPC and the constants of their widths. -/

namespace Sys2Proof

/-- A register, a timestamp, a read result: `W_EXT = 32` bits, unsigned (00_scope.md R8, 30_encoding.md R77). -/
abbrev Word := BitVec 32

/-- A transaction word `T` (30_encoding.md R70). -/
abbrev Transaction := BitVec 43

/-- Storage of the hardware counter `C`: the largest legal `W_HW` (00_scope.md R7). The bits in use are
the low `W_HW`. -/
abbrev Count := BitVec 16

/-- `MAX = 2^W_EXT − 1` (00_scope.md R8). -/
def maxWord : Nat := 4294967295

/-- One status bit as a bit. -/
def bit (b : Bool) : BitVec 1 := BitVec.ofBool b

end Sys2Proof
end

