-- ==== Sys2Proof/HostSyntax.lean ====
section
/-! DEFINITION. What the agents around the block do: the host's statements (30_encoding.md R78) and the turns of
the five agents (10_state.md R20). -/

namespace Sys2Proof

/-- One statement of a host program (30_encoding.md R78). -/
inductive HostStmt where
  /-- Issue the transaction word `T`; a read's result goes to host variable `dst` if one is named. -/
  | bus (T : Transaction) (dst : Option Nat)
  /-- `EI` (42_events.md R166). -/
  | ei
  /-- `DI` (42_events.md R167). -/
  | di
  /-- `BZ hN.<bit>, label`: if the bit of `hN` is 0 the host's pc becomes `label`. -/
  | bz (h : Nat) (bit : Nat) (label : Nat)
  /-- `distance <- hN × 0.017` (43_host.md R180, R181), a host step of its own: the model's choice (log 28). -/
  | distance (src : Nat)
  /-- Any host action outside 30_encoding.md R74 and 42_events.md R166, R167, for example a direct write of
  `E` or `C` (60_exceptions.md R214). -/
  | other
deriving DecidableEq, Repr

/-- Whose step comes next, by the step names of 00_scope.md section 5 (10_state.md R20). -/
inductive AgentStep where
  | host          -- the host's next statement
  | tick          -- TICK
  | edgeIn        -- EDGE_IN
  | dispatchOvf   -- DISPATCH_OVF
  | bodyOvf       -- BODY_OVF
  | dispatchEdge  -- DISPATCH_EDGE
  | bodyEdge      -- BODY_EDGE
  | por           -- POR
  | wdtReset      -- WDT_RESET
deriving DecidableEq, Repr, Inhabited

end Sys2Proof
end

