-- ==== Sys2Proof/Config.lean ====
section
/-! DEFINITION. The parameters of WL-MCPC (00_scope.md section 4) and its free values. -/

namespace Sys2Proof

/-- What the block does when it saturates (60_exceptions.md R209, R210). -/
inductive SatAction where
  /-- Arm the watchdog and halt: the one admitted action (R209). -/
  | watchdogHalt
  /-- Any other callback, one that returns for example: refused (R210). -/
  | other
deriving DecidableEq, Repr

/-- The parameters that rules of the model read, fixed for a run (00_scope.md R7, R9, 60_exceptions.md R210);
the defaults are the spec's. -/
structure Params where
  /-- `W_HW`, legal 8 to 16. -/
  wHw : Nat := 8
  /-- `QUANTUM`, legal `2^W_HW − 1` and `2^W_HW`. -/
  quantum : Nat := 255
  satAction : SatAction := .watchdogHalt
deriving DecidableEq, Repr

/-- The largest value of `C`: `2^W_HW − 1` (10_state.md R22). -/
def Params.maxCount (p : Params) : Nat := 2 ^ p.wHw - 1

/-- `SAT_LIMIT = MAX − QUANTUM` (00_scope.md R16). -/
def Params.satLimit (p : Params) : Nat := maxWord - p.quantum

/-- The parameter values for which `NOW` never wraps (10_state.md R41b). -/
def Params.nowFits (p : Params) : Bool :=
  decide (p.wHw = 8 ∧ (p.quantum = 255 ∨ p.quantum = 256)) || decide (p.wHw = 16 ∧ p.quantum = 65535)

/-- `PRESCALE`, cycles of `clk_in` per increment of `C` (00_scope.md R10). No rule reads it. -/
def Config.prescale : Nat := 8

/-- `T_TRIG_HIGH` in microseconds (00_scope.md R12). No rule reads it. -/
def Config.trigHighMicros : Nat := 10

/-- `F_CLK` in Hz: OPEN (00_scope.md R11). -/
opaque Config.fClk : Nat

/-- `T_SETTLE` in nanoseconds: OPEN (00_scope.md R13). -/
opaque Config.settleNanos : Nat

/-- `T_WDT` in nanoseconds: OPEN (00_scope.md R14). -/
opaque Config.watchdogNanos : Nat

/-- `BASE`, the host address of the register window: OPEN (00_scope.md R15). -/
opaque Config.base : Nat

/-- FREE VALUE. The `n`-th draw of a `RD CAPW` while `DONE = 0` (41_capture.md R133). -/
opaque Config.freeWord : Nat → Word

/-- FREE VALUE. What host variable `n` holds before it is written, in the host's `epoch`-th start
(95_test_vectors.md part 3: host variables start undefined). -/
opaque Config.undefVar (epoch : Nat) (n : Nat) : Word

/-- FREE VALUE. Which agent's turn the `n`-th is where no schedule is placed (60_exceptions.md R211d: the schedule
is free). -/
opaque Config.freeTurn : Nat → AgentStep

end Sys2Proof
end

