-- ==== Sys2Proof/Syntax.lean ====
section
/-! DEFINITION. The instructions of WL-MCPC: its legal bus transactions, one constructor per row of
spec/opcode_table.json (30_encoding.md R74). -/

namespace Sys2Proof

/-- A legal bus transaction. Only `WR FREQ` has an operand; a read's `DATA` is ignored and the command word
of a command is fixed (30_encoding.md R77). -/
inductive Instr where
  | cmdCfg       -- CMD CFG      (40_clock.md R101)
  | cmdStart     -- CMD START    (40_clock.md R102)
  | cmdStop      -- CMD STOP     (40_clock.md R103)
  | cmdTrig      -- CMD TRIG     (41_capture.md R130)
  | cmdClrDone   -- CMD CLRDONE  (41_capture.md R131)
  | rdStatus     -- RD STATUS    (40_clock.md R106)
  | rdNow        -- RD NOW       (40_clock.md R104)
  | rdCapS       -- RD CAPS      (41_capture.md R132)
  | rdCapW       -- RD CAPW      (41_capture.md R133)
  | rdFreq       -- RD FREQ      (40_clock.md R111)
  | wrFreq (f : Word)  -- WR FREQ, f (40_clock.md R110)
deriving DecidableEq, Repr

/-- The five reads: the transactions that return a result word (30_encoding.md R70). -/
def Instr.isRead : Instr → Bool
  | .rdStatus | .rdNow | .rdCapS | .rdCapW | .rdFreq => true
  | .cmdCfg | .cmdStart | .cmdStop | .cmdTrig | .cmdClrDone | .wrFreq _ => false

end Sys2Proof
end

