-- ==== Sys2Proof/Machine/State.lean ====
section
/-! DEFINITION. The state of WL-MCPC (10_state.md) as plain data, its fault and refusal names, and the launch
state. -/

namespace Sys2Proof.Machine

/-- The fault codes of 60_exceptions.md R201. They are RECORDED in `State.faults` and the machine goes on (R200, R202):
no step answers `Host.Outcome.fault`. Recording is safe: every claim takes "no fault recorded" as a premise. -/
inductive Fault where
  /-- 1: raised by a transaction whose `SIZE` is not `0b10`; safe. -/
  | busSize
  /-- 2: raised by a transaction whose `OFF[1:0]` is not 0; safe. -/
  | busAlign
  /-- 3: raised by a transaction whose `OFF` names no register; safe. -/
  | busUnmapped
  /-- 4: raised by a read of `CMD` or a write of a read-only register; safe. -/
  | busAccess
  /-- 5: raised by a `CMD` write with `RSV ≠ 0` or an unknown `OPC`; safe. -/
  | illegalCmd
  /-- 6: raised by `CMD START` and `CMD TRIG` while `OVF_EN = 0`; safe. -/
  | startUnconfigured
  /-- 7: raised by a wrap while `OVF_PEND = 1`, not halted; safe. -/
  | ovfLost
  /-- 8: raised by an edge while `EDGE_PEND = 1`, not halted; safe. -/
  | edgeLost
deriving DecidableEq, Repr

/-- Why a step has no meaning. -/
inductive Refusal where
  /-- Raised by an arm of `exec` whose instruction has no meaning yet; safe. -/
  | notModelled (mnemonic : String)
  /-- Raised by `step` in a state whose refusal mark is set: the model takes no further step
  (60_exceptions.md R214); safe. -/
  | refusalMarkSet
deriving DecidableEq, Repr

/-- Which service the dispatcher is executing (10_state.md R35). -/
inductive Service where
  | none   -- the host runs
  | ovf    -- the overflow service is dispatched, its body has not run
  | edge   -- the edge service is dispatched, its body has not run
  | halt   -- saturated: halted until reset
deriving DecidableEq, Repr

/-- The step that raised a fault; for a bus fault, the whole transaction word (60_exceptions.md R201). -/
inductive FaultSource where
  | bus (T : Transaction)
  | tick
  | edgeIn
deriving DecidableEq, Repr

/-- One record of the fault set (60_exceptions.md R201). -/
structure FaultRecord where
  code : Fault
  source : FaultSource
deriving DecidableEq, Repr

/-- The two resets (70_reset_and_hazards.md R250). -/
inductive ResetKind where
  | por
  | wdt
deriving DecidableEq, Repr

/-- The externally visible events (10_state.md R37c). -/
inductive Event where
  | trigPulse
  | satReq
  | reset (kind : ResetKind)
  /-- A bus transaction with its result: a word for a read, none for a write. -/
  | bus (i : Instr) (result : Option Word)
deriving DecidableEq, Repr

/-- The machine. INVENTORY.md, '## State', gives the rule and the reset value of each field. -/
structure State where
  /-- `C` (10_state.md R22). -/
  c : Count
  /-- `E` (R23). -/
  e : Word
  /-- `RUN` (R24). -/
  run : Bool
  /-- `OVF_EN` (R25). -/
  ovfEn : Bool
  /-- `OVF_PEND` (R26). -/
  ovfPend : Bool
  /-- `SAT` (R27). -/
  sat : Bool
  /-- `CAP_START` (R28). -/
  capStart : Word
  /-- `CAP_WIDTH` (R29). -/
  capWidth : Word
  /-- `ARMED_END` (R30). -/
  armedEnd : Bool
  /-- `DONE` (R31). -/
  done : Bool
  /-- `EDGE_PEND` (R32). -/
  edgePend : Bool
  /-- `TRIG_OUT` (R33). -/
  trigOut : Bool
  /-- `FREQ` (R34). -/
  freq : Word
  /-- `in_service` (R35). -/
  inService : Service
  /-- `gie` (R36). -/
  gie : Bool
  /-- `faults` (R37a): a set, sorted by `FaultRecord.key`, without repeats. -/
  faults : List FaultRecord
  /-- `refused` (R37b). -/
  refused : Bool
  /-- `trace` (R37c), oldest first. -/
  trace : List Event
  /-- The parameters of the run (00_scope.md R7, R9). -/
  params : Params
  /-- The host's program text (30_encoding.md R78, 10_state.md R42). -/
  program : List HostStmt
  /-- The host's program counter, an index into `program` (43_host.md R184). -/
  pc : Nat
  /-- The host variables written so far, by number, numbers strictly rising (30_encoding.md R78). -/
  vars : List (Nat × Word)
  /-- The model's own: which start of the host this is, for the free values of unwritten variables (log 5). -/
  varEpoch : Nat
  /-- The host's distance result in thousandths of a centimetre (43_host.md R181, log 19). -/
  distance : Option Nat
  /-- The model's own: the index of the next free word (log 6). -/
  draws : Nat
  /-- The model's own: the turns placed for the coming steps, next first (log 1). -/
  schedule : List AgentStep
  /-- The model's own: the number of turns taken (log 1). -/
  turn : Nat
deriving DecidableEq, Repr

/-- The launch state (70_reset_and_hazards.md R251), no host program loaded and no schedule placed (log 3). -/
def State.reset : State where
  c := 0
  e := 0
  run := false
  ovfEn := false
  ovfPend := false
  sat := false
  capStart := 0
  capWidth := 0
  armedEnd := false
  done := false
  edgePend := false
  trigOut := false
  freq := 0
  inService := .none
  gie := false
  faults := []
  refused := false
  trace := []
  params := ⟨8, 255, .watchdogHalt⟩
  program := []
  pc := 0
  vars := []
  varEpoch := 0
  distance := none
  draws := 0
  schedule := []
  turn := 0

end Sys2Proof.Machine
end

