-- ==== Sys2Proof/Machine/Flags.lean ====
section
/-! DEFINITION. Views computed from the flags: the `STATUS` register (10_state.md R40), the output lines (R38) and the
interrupt requests (60_exceptions.md R203). -/

namespace Sys2Proof.Machine

/-- `STATUS`: bits 6 to 0 are `SAT, DONE, ARMED_END, EDGE_PEND, OVF_PEND, OVF_EN, RUN`, bits 31:7 read 0
(10_state.md R40, 40_clock.md R106). -/
def State.status (s : State) : Word :=
  (bit s.sat ++ bit s.done ++ bit s.armedEnd ++ bit s.edgePend ++ bit s.ovfPend ++ bit s.ovfEn ++ bit s.run).zeroExtend 32

/-- `irq_ovf`: the level `OVF_PEND ∧ OVF_EN` (60_exceptions.md R203). -/
def State.irqOvf (s : State) : Bool := s.ovfPend && s.ovfEn

/-- `irq_edge`: the level `EDGE_PEND` (60_exceptions.md R203). -/
def State.irqEdge (s : State) : Bool := s.edgePend

/-- The level of the trigger output pin (10_state.md R33, R38). -/
def State.trigOutLine (s : State) : Bool := s.trigOut

/-- `sat_req`, asserted by saturation (10_state.md R38, log 22). -/
def State.satReqLine (s : State) : Bool := s.sat

end Sys2Proof.Machine
end

