-- ==== Sys2Proof/Decode.lean ====
section
/-! DEFINITION. The transaction word's fields, the decoder of 30_encoding.md R75 and the encoder, both from R70,
R72 and R74. -/

namespace Sys2Proof

/-- Why the decoder rejects a word (30_encoding.md R75). -/
inductive Reject where
  | busSize       -- SIZE is not 0b10
  | busAlign      -- OFF[1:0] is not 0
  | busUnmapped   -- OFF names no register
  | busAccess     -- read of CMD, or write of a read-only register
  | illegalCmd    -- RSV is not 0, or OPC is not 0x01 to 0x05
deriving DecidableEq, Repr

/-- `T[42:41]`. -/
def Transaction.size (T : Transaction) : BitVec 2 := T.extractLsb' 41 2

/-- `T[40]`: true for a write. -/
def Transaction.isWrite (T : Transaction) : Bool := T.getLsbD 40

/-- `T[39:32]`. -/
def Transaction.off (T : Transaction) : BitVec 8 := T.extractLsb' 32 8

/-- `T[31:0]`. -/
def Transaction.data (T : Transaction) : Word := T.extractLsb' 0 32

/-- The transaction word of four fields (30_encoding.md R70). -/
def pack (size : BitVec 2) (dir : BitVec 1) (off : BitVec 8) (data : Word) : Transaction :=
  size ++ dir ++ off ++ data

/-- `OPC` of a command word (30_encoding.md R72). -/
def opcOf (data : Word) : BitVec 8 := data.extractLsb' 0 8

/-- `RSV` of a command word (30_encoding.md R72). -/
def rsvOf (data : Word) : BitVec 24 := data.extractLsb' 8 24

/-- A command word (30_encoding.md R72, R73, R76). -/
def decodeCommand (data : Word) : Except Reject Instr :=
  if rsvOf data ≠ 0 then .error .illegalCmd
  else if opcOf data = 0x01 then .ok .cmdCfg
  else if opcOf data = 0x02 then .ok .cmdStart
  else if opcOf data = 0x03 then .ok .cmdStop
  else if opcOf data = 0x04 then .ok .cmdTrig
  else if opcOf data = 0x05 then .ok .cmdClrDone
  else .error .illegalCmd

/-- The offsets of the register map (10_state.md R39). -/
def mapped (off : BitVec 8) : Bool :=
  off == 0x00 || off == 0x04 || off == 0x08 || off == 0x0C || off == 0x10 || off == 0x14

/-- A write at a mapped offset: `CMD` and `FREQ` may be written, the rest is read-only (10_state.md R39,
30_encoding.md R75). -/
def decodeWrite (off : BitVec 8) (data : Word) : Except Reject Instr :=
  if off = 0x00 then decodeCommand data
  else if off = 0x14 then .ok (.wrFreq data)
  else .error .busAccess

/-- A read at a mapped offset: all but the write-only `CMD` may be read (10_state.md R39, 30_encoding.md R75). -/
def decodeRead (off : BitVec 8) : Except Reject Instr :=
  if off = 0x04 then .ok .rdStatus
  else if off = 0x08 then .ok .rdNow
  else if off = 0x0C then .ok .rdCapS
  else if off = 0x10 then .ok .rdCapW
  else if off = 0x14 then .ok .rdFreq
  else .error .busAccess

/-- The decoder, total on every transaction word, its checks in the order of 30_encoding.md R75. -/
def decode (T : Transaction) : Except Reject Instr :=
  if T.size ≠ 0b10 then .error .busSize
  else if T.off.extractLsb' 0 2 ≠ 0 then .error .busAlign
  else if !mapped T.off then .error .busUnmapped
  else if T.isWrite then decodeWrite T.off T.data
  else decodeRead T.off

/-- The word of a command (30_encoding.md R72, R73). -/
def commandWord (opc : BitVec 8) : Transaction := pack 0b10 1 0x00 (opc.zeroExtend 32)

/-- The word of a read, its ignored `DATA` zero (30_encoding.md R74). -/
def readWord (off : BitVec 8) : Transaction := pack 0b10 0 off 0

/-- The transaction word of an instruction (30_encoding.md R74). -/
def encode : Instr → Transaction
  | .cmdCfg => commandWord 0x01
  | .cmdStart => commandWord 0x02
  | .cmdStop => commandWord 0x03
  | .cmdTrig => commandWord 0x04
  | .cmdClrDone => commandWord 0x05
  | .rdStatus => readWord 0x04
  | .rdNow => readWord 0x08
  | .rdCapS => readWord 0x0C
  | .rdCapW => readWord 0x10
  | .rdFreq => readWord 0x14
  | .wrFreq f => pack 0b10 1 0x14 f

/-- `match` and `mask` of an instruction's row (30_encoding.md R74). -/
def Instr.row : Instr → Transaction × Transaction
  | .cmdCfg => (0x50000000001, 0x7FFFFFFFFFF)
  | .cmdStart => (0x50000000002, 0x7FFFFFFFFFF)
  | .cmdStop => (0x50000000003, 0x7FFFFFFFFFF)
  | .cmdTrig => (0x50000000004, 0x7FFFFFFFFFF)
  | .cmdClrDone => (0x50000000005, 0x7FFFFFFFFFF)
  | .rdStatus => (0x40400000000, 0x7FF00000000)
  | .rdNow => (0x40800000000, 0x7FF00000000)
  | .rdCapS => (0x40C00000000, 0x7FF00000000)
  | .rdCapW => (0x41000000000, 0x7FF00000000)
  | .rdFreq => (0x41400000000, 0x7FF00000000)
  | .wrFreq _ => (0x51400000000, 0x7FF00000000)

/-- `T` selects the row of `i` (30_encoding.md R74). -/
def Instr.selectedBy (i : Instr) (T : Transaction) : Bool := T &&& i.row.2 == i.row.1

/-- The transaction word in an opcode-table number of `nbits` bits: its low 43 bits, where nothing stands
above them (log 21). -/
def tableWord (nbits w : Nat) : Option Transaction :=
  if w % 2 ^ nbits < 2 ^ 43 then some (BitVec.ofNat 43 (w % 2 ^ nbits)) else none

/-- The instruction the decoder reads from an opcode-table number. -/
def decodeTableWord (nbits w : Nat) : Option Instr :=
  match tableWord nbits w with
  | none => none
  | some T =>
    match decode T with
    | .ok i => some i
    | .error _ => none

end Sys2Proof
end

