-- ==== Sys2Proof/Machine/Operands.lean ====
section
/-! DEFINITION. Operand forms: transfers of the register window, byte lanes, host variables and the destination of a
read. -/

namespace Sys2Proof.Machine

/-- `SIZE` of an `n`-byte transfer (30_encoding.md R70); no other size has an encoding. -/
def sizeField (n : Nat) : Option (BitVec 2) :=
  if n = 1 then some 0b00 else if n = 2 then some 0b01 else if n = 4 then some 0b10 else none

/-- `MemRead(off, n)` as a transaction word (00_scope.md section 5, 20_memory.md R50). -/
def memRead (off : BitVec 8) (n : Nat) : Option Transaction :=
  (sizeField n).map fun sz => pack sz 0 off 0

/-- `MemWrite(off, n, v)` as a transaction word (00_scope.md section 5, 20_memory.md R50). -/
def memWrite (off : BitVec 8) (n : Nat) (v : Word) : Option Transaction :=
  (sizeField n).map fun sz => pack sz 1 off v

/-- The host address of a byte of the register window (00_scope.md R15, 20_memory.md R50). -/
def hostAddress (off : BitVec 8) : Nat := Config.base + off.toNat

/-- The byte that offset `off + k` of a register carries: bits `[8k+7 : 8k]` (20_memory.md R55, log 23). -/
def byteLane (v : Word) (k : Fin 4) : BitVec 8 := v.extractLsb' (8 * k.val) 8

/-- Host variable `n` in the list of written ones. -/
def lookupVar (n : Nat) : List (Nat × Word) → Option Word
  | [] => none
  | (m, v) :: rest => if m = n then some v else lookupVar n rest

/-- The list of written variables after `hN <- v`, numbers strictly rising. -/
def setVar (n : Nat) (v : Word) : List (Nat × Word) → List (Nat × Word)
  | [] => [(n, v)]
  | (m, w) :: rest =>
    if n < m then (n, v) :: (m, w) :: rest
    else if n = m then (n, v) :: rest
    else (m, w) :: setVar n v rest

/-- The written variables' numbers are strictly rising. -/
abbrev VarsWf (vars : List (Nat × Word)) : Prop := vars.Pairwise (fun a b => a.1 < b.1)

/-- What host variable `n` holds: a free value before it is written (log 5). -/
def State.var (s : State) (n : Nat) : Word :=
  match lookupVar n s.vars with
  | some v => v
  | none => Config.undefVar s.varEpoch n

/-- The host statement at the host's pc; none at the end label (43_host.md R184). -/
def State.stmt (s : State) : Option HostStmt := s.program[s.pc]?

/-- The destination that a host statement names for a read's result (30_encoding.md R78). -/
def stmtDest : Option HostStmt → Option Nat
  | some (.bus _ dst) => dst
  | _ => none

/-- `hN <- v`, where the statement names an `hN`. -/
def deliver (dst : Option Nat) (v : Word) (vars : List (Nat × Word)) : List (Nat × Word) :=
  match dst with
  | none => vars
  | some n => setVar n v vars

/-- The distance of a pulse width in thousandths of a centimetre: `CAP_WIDTH × 0.017` exactly (43_host.md R181). -/
def distanceMilli (w : Word) : Nat := w.toNat * 17

end Sys2Proof.Machine
end

