-- ==== Sys2Proof/Machine/Ops.lean ====
section
/-! DEFINITION. The named operations over the state: the fault set, the trace, the end of a host transaction, the
clock's stop and restart, service entry and return, saturation's refusal, and reset. -/

namespace Sys2Proof.Machine

/-- The code number of a fault (60_exceptions.md R201). -/
def Fault.number : Fault → Nat
  | .busSize => 1
  | .busAlign => 2
  | .busUnmapped => 3
  | .busAccess => 4
  | .illegalCmd => 5
  | .startUnconfigured => 6
  | .ovfLost => 7
  | .edgeLost => 8

/-- The fault that a decoder rejection raises (30_encoding.md R75). -/
def rejectFault : Reject → Fault
  | .busSize => .busSize
  | .busAlign => .busAlign
  | .busUnmapped => .busUnmapped
  | .busAccess => .busAccess
  | .illegalCmd => .illegalCmd

/-- A number for the step that raised a fault, distinct steps having distinct numbers. -/
def FaultSource.number : FaultSource → Nat
  | .tick => 0
  | .edgeIn => 1
  | .bus T => T.toNat + 2

/-- The order in which the fault set is held: by code, then by step. -/
def FaultRecord.key (r : FaultRecord) : Nat := r.code.number * 2 ^ 44 + r.source.number

/-- The fault set with `r` in it. -/
def insertRecord (r : FaultRecord) : List FaultRecord → List FaultRecord
  | [] => [r]
  | q :: rest =>
    if r.key < q.key then r :: q :: rest
    else if r.key = q.key then q :: rest
    else q :: insertRecord r rest

/-- The fault set is in its canonical form: sorted, without repeats. -/
abbrev FaultsWf (faults : List FaultRecord) : Prop := faults.Pairwise (fun a b => a.key < b.key)

/-- `raise Fault(code)` (00_scope.md section 5, 60_exceptions.md R201). -/
def State.recordFault (s : State) (code : Fault) (source : FaultSource) : State :=
  { s with faults := insertRecord ⟨code, source⟩ s.faults }

/-- `trace += ev` (10_state.md R37c). -/
def State.emit (s : State) (ev : Event) : State := { s with trace := s.trace ++ [ev] }

/-- The host goes on to its next statement. -/
def State.advance (s : State) : State := { s with pc := s.pc + 1 }

/-- `hN <- v` for the `hN` that the host statement at the pc names (30_encoding.md R78). -/
def State.deliverResult (s : State) (v : Word) : State :=
  { s with vars := deliver (stmtDest s.stmt) v s.vars }

/-- A step of the host: taken only while no service is dispatched and the block is not halted; otherwise the host
waits and nothing changes (40_clock.md R100, 10_state.md R35, log 2). -/
def hostStep (s t : State) : Host.Outcome State Fault Refusal :=
  if s.inService = .none then .next t else .next s

/-- The end of a transaction that returns nothing: it enters the trace and the host goes on (40_clock.md R100). -/
def State.completeWrite (s : State) (i : Instr) : State := (s.emit (.bus i none)).advance

/-- The end of a read: the result goes to the host and the trace, and the host goes on (30_encoding.md R70,
40_clock.md R100). -/
def State.completeRead (s : State) (i : Instr) (v : Word) : State :=
  ((s.deliverResult v).emit (.bus i (some v))).advance

/-- `Fault(START_UNCONFIGURED)`: no block state changes (40_clock.md R102, 41_capture.md R130, log 11). -/
def State.rejectUnconfigured (s : State) (i : Instr) : State :=
  (s.recordFault .startUnconfigured (.bus (encode i))).advance

/-- `clock.now()`: `E +32 zext_32(C)` (40_clock.md R104, 60_exceptions.md R208). -/
def State.now (s : State) : Word := s.e + s.c.zeroExtend 32

/-- The source's `stop()`: `RUN`, `C`, `E` and `OVF_PEND` to 0 (40_clock.md R103, 60_exceptions.md R208). -/
def State.stopClock (s : State) : State := { s with run := false, c := 0, e := 0, ovfPend := false }

/-- "Restarts the clock from zero" (41_capture.md R130). -/
def State.restartClock (s : State) : State := { s with run := true, c := 0, e := 0, ovfPend := false }

/-- The next free word is used up (41_capture.md R133, log 6). -/
def State.nextDraw (s : State) : State := { s with draws := s.draws + 1 }

/-- Service entry, the one way a service is dispatched: nothing is saved, the host stops (60_exceptions.md R205,
R212). -/
def State.enterService (s : State) (svc : Service) : State := { s with inService := svc }

/-- Service return: the host resumes with `gie` as it was (60_exceptions.md R213). -/
def State.returnToHost (s : State) : State := { s with inService := .none }

/-- `refuse`: the refusal mark is set (60_exceptions.md R214). -/
def State.refuse (s : State) : State := { s with refused := true }

/-- `reset(kind)` (70_reset_and_hazards.md R250). The host restarts its program at its entry point, its variables
undefined again (log 14); `faults` and `refused` are kept, and so are the parameters, the program text, the
schedule and the model's counters. -/
def State.resetBy (s : State) (kind : ResetKind) : State :=
  { s with
    c := 0, e := 0, run := false, ovfEn := false, ovfPend := false, sat := false
    capStart := 0, capWidth := 0, armedEnd := false, done := false
    edgePend := false, trigOut := false, freq := 0
    inService := .none, gie := false
    pc := 0, vars := [], varEpoch := s.varEpoch + 1, distance := none
    trace := s.trace ++ [.reset kind] }

end Sys2Proof.Machine
end

