-- ==== Sys2Proof/Machine/Capture.lean ====
section
/-! DEFINITION. The capture unit's transactions (41_capture.md). -/

namespace Sys2Proof.Machine

/-- `CMD TRIG`: the pulse, then the clock from zero, armed for a start edge; `DONE`, `EDGE_PEND`, `CAP_START` and
`CAP_WIDTH` stay (41_capture.md R130). -/
def execCmdTrig (s : State) : Host.Outcome State Fault Refusal :=
  hostStep s
    (if s.ovfEn then
      ({ (s.emit .trigPulse).restartClock with trigOut := false, armedEnd := false } : State).completeWrite .cmdTrig
     else s.rejectUnconfigured .cmdTrig)

/-- `CMD CLRDONE`: `DONE <- 0` (41_capture.md R131). -/
def execCmdClrDone (s : State) : Host.Outcome State Fault Refusal :=
  hostStep s (({ s with done := false } : State).completeWrite .cmdClrDone)

/-- `RD CAPS` (41_capture.md R132). -/
def execRdCapS (s : State) : Host.Outcome State Fault Refusal :=
  hostStep s (s.completeRead .rdCapS s.capStart)

/-- `RD CAPW`: the width once `DONE = 1`, a fresh draw before (41_capture.md R133, log 6). -/
def execRdCapW (s : State) : Host.Outcome State Fault Refusal :=
  hostStep s
    (if s.done then s.completeRead .rdCapW s.capWidth
     else s.nextDraw.completeRead .rdCapW (Config.freeWord s.draws))

end Sys2Proof.Machine
end

