-- ==== Sys2Proof/Machine/Clock.lean ====
section
/-! DEFINITION. The clock unit's transactions (40_clock.md). -/

namespace Sys2Proof.Machine

/-- `CMD CFG`: `OVF_EN <- 1` (40_clock.md R101). -/
def execCmdCfg (s : State) : Host.Outcome State Fault Refusal :=
  hostStep s (({ s with ovfEn := true } : State).completeWrite .cmdCfg)

/-- `CMD START`: `RUN <- 1` once configured; `C`, `E` and `OVF_PEND` stay (40_clock.md R102). -/
def execCmdStart (s : State) : Host.Outcome State Fault Refusal :=
  hostStep s
    (if s.ovfEn then ({ s with run := true } : State).completeWrite .cmdStart
     else s.rejectUnconfigured .cmdStart)

/-- `CMD STOP`: the clock stops at zero and a pending wrap is dropped (40_clock.md R103). -/
def execCmdStop (s : State) : Host.Outcome State Fault Refusal :=
  hostStep s (s.stopClock.completeWrite .cmdStop)

/-- `RD NOW`: one snapshot of `E` and `C`; `gie` unchanged (40_clock.md R104). -/
def execRdNow (s : State) : Host.Outcome State Fault Refusal :=
  hostStep s (s.completeRead .rdNow s.now)

/-- `RD STATUS` (40_clock.md R106). -/
def execRdStatus (s : State) : Host.Outcome State Fault Refusal :=
  hostStep s (s.completeRead .rdStatus s.status)

/-- `WR FREQ, f`: stored as is (40_clock.md R110). -/
def execWrFreq (f : Word) (s : State) : Host.Outcome State Fault Refusal :=
  hostStep s (({ s with freq := f } : State).completeWrite (.wrFreq f))

/-- `RD FREQ` (40_clock.md R111). -/
def execRdFreq (s : State) : Host.Outcome State Fault Refusal :=
  hostStep s (s.completeRead .rdFreq s.freq)

end Sys2Proof.Machine
end

