-- ==== Sys2Proof/Machine/Dispatch.lean ====
section
/-! DEFINITION. One arm per instruction. -/

namespace Sys2Proof.Machine

def exec (i : Instr) (s : State) : Host.Outcome State Fault Refusal :=
  match i with
  | .cmdCfg => Sys2Proof.Machine.execCmdCfg s
  | .cmdStart => Sys2Proof.Machine.execCmdStart s
  | .cmdStop => Sys2Proof.Machine.execCmdStop s
  | .cmdTrig => Sys2Proof.Machine.execCmdTrig s
  | .cmdClrDone => Sys2Proof.Machine.execCmdClrDone s
  | .rdStatus => Sys2Proof.Machine.execRdStatus s
  | .rdNow => Sys2Proof.Machine.execRdNow s
  | .rdCapS => Sys2Proof.Machine.execRdCapS s
  | .rdCapW => Sys2Proof.Machine.execRdCapW s
  | .rdFreq => Sys2Proof.Machine.execRdFreq s
  | .wrFreq f => Sys2Proof.Machine.execWrFreq f s

end Sys2Proof.Machine
end

