-- ==== Sys2Proof/Machine/Events.lean ====
section
/-! DEFINITION. The steps that are no bus transactions and no services: the counter, the echo input, the host's
interrupt gate, the reset inputs (42_events.md). -/

namespace Sys2Proof.Machine

/-- `C` is at the top of its range (42_events.md R161, log 8). -/
def State.atTop (s : State) : Bool := decide (s.params.maxCount ≤ s.c.toNat)

/-- The wrap's own writes: `C <- 0`, `OVF_PEND <- 1` whatever `OVF_EN` is; `E` stays (42_events.md R161). -/
def State.wrap (s : State) : State := { s with c := 0, ovfPend := true }

/-- `TICK`, enabled while `RUN = 1`: an increment below the top (42_events.md R160), a wrap at it; a wrap that finds
the previous one pending, not halted, is a lost overflow (R161). -/
def tick (s : State) : State :=
  if s.atTop then
    if s.ovfPend = true ∧ s.inService ≠ .halt then s.wrap.recordFault .ovfLost .tick else s.wrap
  else { s with c := s.c + 1 }

/-- `EDGE_IN`: the edge is latched in every state; an edge that finds the previous one undispatched, not halted, is
lost (42_events.md R163). -/
def edgeIn (s : State) : State :=
  if s.edgePend = true ∧ s.inService ≠ .halt then
    ({ s with edgePend := true } : State).recordFault .edgeLost .edgeIn
  else { s with edgePend := true }

/-- `EI`: `gie <- 1` (42_events.md R166). -/
def enableInterrupts (s : State) : State := ({ s with gie := true } : State).advance

/-- `DI`: `gie <- 0` (42_events.md R167). -/
def disableInterrupts (s : State) : State := ({ s with gie := false } : State).advance

/-- `POR` (42_events.md R168). -/
def por (s : State) : State := s.resetBy .por

/-- `WDT_RESET`, enabled only in `HALT` (42_events.md R169). -/
def wdtReset (s : State) : State := s.resetBy .wdt

end Sys2Proof.Machine
end

