-- ==== Sys2Proof/Machine/Services.lean ====
section
/-! DEFINITION. The two services: dispatch, body, saturation (60_exceptions.md R203 to R213). -/

namespace Sys2Proof.Machine

/-- The gate is open and no service is in progress (60_exceptions.md R205). -/
def State.mayDispatch (s : State) : Bool := s.gie && decide (s.inService = .none)

/-- `DISPATCH_OVF`: the latch is taken, the host stops (60_exceptions.md R205). -/
def dispatchOvf (s : State) : State := ({ s with ovfPend := false } : State).enterService .ovf

/-- `DISPATCH_EDGE`: the latch is taken, the host stops (60_exceptions.md R205). -/
def dispatchEdge (s : State) : State := ({ s with edgePend := false } : State).enterService .edge

/-- `saturate()`: `SAT`, `sat_req`, the halt; `E` stays (60_exceptions.md R209). Any other callback is refused (R210,
R214). -/
def saturate (s : State) : State :=
  match s.params.satAction with
  | .watchdogHalt => (({ s with sat := true } : State).emit .satReq).enterService .halt
  | .other => s.refuse

/-- `BODY_OVF`: one quantum is added, or the block saturates when `E ≥ SAT_LIMIT` (60_exceptions.md R207). -/
def bodyOvf (s : State) : State :=
  if s.params.satLimit ≤ s.e.toNat then saturate s
  else ({ s with e := s.e + BitVec.ofNat 32 s.params.quantum } : State).returnToHost

/-- `BODY_EDGE`: a start edge is timestamped and arms the end edge; an end edge gives the width, sets `DONE` and stops
the clock (60_exceptions.md R208). -/
def bodyEdge (s : State) : State :=
  if s.armedEnd then
    ({ s with capWidth := s.now - s.capStart, done := true } : State).stopClock.returnToHost
  else ({ s with capStart := s.now, armedEnd := true } : State).returnToHost

end Sys2Proof.Machine
end

