-- ==== Sys2Proof/Machine/Turns.lean ====
section
/-! DEFINITION. One turn of one agent: when its step is enabled and what it does (10_state.md R20), the host's
statements among them (30_encoding.md R78). -/

namespace Sys2Proof.Machine

/-- The host issues a transaction word: a word that does not decode records its fault and changes nothing else of the
block, and the host goes on (30_encoding.md R75, 40_clock.md R100, log 13). -/
def issue (T : Transaction) (s : State) : Host.Outcome State Fault Refusal :=
  match decode T with
  | .ok i => exec i s
  | .error r => hostStep s (s.recordFault (rejectFault r) (.bus T)).advance

/-- `BZ hN.<bit>, label` (30_encoding.md R78). -/
def branchZero (h b label : Nat) (s : State) : State :=
  if (s.var h).getLsbD b then s.advance else { s with pc := label }

/-- `distance <- hN × 0.017` (43_host.md R181, log 19). That it is a turn of the host of its own is the model's choice (log
28). -/
def convertDistance (src : Nat) (s : State) : State :=
  ({ s with distance := some (distanceMilli (s.var src)) } : State).advance

/-- The host's step: its statement at the pc; nothing at the end label (43_host.md R184). That a branch and the distance
conversion are turns of their own, between which other agents may step, is the model's choice (log 4, log 28). -/
def hostTurn (s : State) : Host.Outcome State Fault Refusal :=
  match s.stmt with
  | none => .next s
  | some (.bus T _) => issue T s
  | some .ei => hostStep s (enableInterrupts s)
  | some .di => hostStep s (disableInterrupts s)
  | some (.bz h b label) => hostStep s (branchZero h b label s)
  | some (.distance src) => hostStep s (convertDistance src s)
  | some .other => hostStep s s.refuse

/-- When an agent's step is enabled (10_state.md R20, R35, 42_events.md R160, R163, R168, R169, 60_exceptions.md
R205, R206, R208). -/
def enabled : AgentStep → State → Bool
  | .host, s => decide (s.inService = .none) && s.stmt.isSome
  | .tick, s => s.run
  | .edgeIn, _ => true
  | .dispatchOvf, s => s.mayDispatch && s.irqOvf
  | .bodyOvf, s => decide (s.inService = .ovf)
  | .dispatchEdge, s => s.mayDispatch && !s.irqOvf && s.irqEdge
  | .bodyEdge, s => decide (s.inService = .edge)
  | .por, _ => true
  | .wdtReset, s => decide (s.inService = .halt)

/-- What an agent's enabled step does. -/
def perform : AgentStep → State → Host.Outcome State Fault Refusal
  | .host, s => hostTurn s
  | .tick, s => .next (tick s)
  | .edgeIn, s => .next (edgeIn s)
  | .dispatchOvf, s => .next (dispatchOvf s)
  | .bodyOvf, s => .next (bodyOvf s)
  | .dispatchEdge, s => .next (dispatchEdge s)
  | .bodyEdge, s => .next (bodyEdge s)
  | .por, s => .next (por s)
  | .wdtReset, s => .next (wdtReset s)

/-- One turn: an agent whose step is not enabled takes none, and nothing changes (10_state.md R20, log 2). -/
def takeTurn (a : AgentStep) (s : State) : Host.Outcome State Fault Refusal :=
  if enabled a s then perform a s else .next s

/-- Whose turn is next: the placed schedule's, and where none is placed any agent's (60_exceptions.md R211d, log 1). -/
def State.nextAgent (s : State) : AgentStep :=
  match s.schedule with
  | [] => Config.freeTurn s.turn
  | a :: _ => a

/-- The turn is taken off the schedule. -/
def State.passTurn (s : State) : State := { s with schedule := s.schedule.tail, turn := s.turn + 1 }

/-- An agent's turn in a run that is not refused; after a refusal no agent takes a further step
(60_exceptions.md R214). -/
def turnStep (a : AgentStep) (s : State) : Host.Outcome State Fault Refusal :=
  if s.refused then .refused .refusalMarkSet else takeTurn a s

/-- The next turn, taken off the schedule. -/
def nextStep (s : State) : Host.Outcome State Fault Refusal := turnStep s.nextAgent s.passTurn

/-- The host statement that an opcode-table number stands for: its transaction word with no destination; a number
that is no 43-bit word is no host action of the tables (log 21). -/
def tableStmt (nbits w : Nat) : HostStmt :=
  match tableWord nbits w with
  | some T => .bus T none
  | none => .other

/-- `st` placed as the host's next statement, and the host's turn placed next (log 3). -/
def State.withNextStmt (s : State) (st : HostStmt) : State :=
  { s with
    program := s.program.take s.pc ++ st :: s.program.drop (s.pc + 1)
    pc := min s.pc s.program.length
    schedule := .host :: s.schedule }

end Sys2Proof.Machine
end

