-- ==== Sys2Proof/Machine/Step.lean ====
section
/-! DEFINITION. One step of the machine, and where the next transaction is placed. -/

namespace Sys2Proof.Machine

/-- One step: one turn of one agent (20_memory.md R59). -/
def step (s : State) : Host.Outcome State Fault Refusal := nextStep s

/-- `s` with the transaction of an opcode-table number as the host's next statement and the host's turn next. -/
def State.withFetchWord (s : State) (nbits w : Nat) : State := s.withNextStmt (tableStmt nbits w)

end Sys2Proof.Machine
end

