-- ==== Sys2Proof/Machine/Pseudo.lean ====
section
/-! DEFINITION. The pseudo-instructions of 30_encoding.md R79 and the host's `read_sync` (43_host.md R180) as host
statements; `start` is the index of the expansion's first statement. -/

namespace Sys2Proof.Machine

/-- A command or a register write. -/
def stmtWrite (i : Instr) : HostStmt := .bus (encode i) none

/-- `RD <reg> -> hN`. -/
def stmtRead (i : Instr) (n : Nat) : HostStmt := .bus (encode i) (some n)

/-- `CONFIGURE f`. -/
def pseudoConfigure (f : Word) : List HostStmt := [stmtWrite (.wrFreq f), stmtWrite .cmdCfg]

/-- `NOW hN`. -/
def pseudoNow (n : Nat) : List HostStmt := [stmtRead .rdNow n]

/-- `POLL_DONE hN`: poll `STATUS` until bit 5, `DONE`, is 1. -/
def pseudoPollDone (start n : Nat) : List HostStmt := [stmtRead .rdStatus n, .bz n 5 start]

/-- `READ_SYNC hN`. -/
def pseudoReadSync (start n : Nat) : List HostStmt :=
  [stmtWrite .cmdClrDone, stmtWrite .cmdTrig] ++ pseudoPollDone (start + 2) n ++ [stmtRead .rdCapW n]

/-- `read_sync()` whole, with its distance conversion (43_host.md R180). -/
def readSyncDistance (start h0 h1 : Nat) : List HostStmt :=
  [stmtWrite .cmdClrDone, stmtWrite .cmdTrig] ++ pseudoPollDone (start + 2) h0 ++ [stmtRead .rdCapW h1, .distance h1]

end Sys2Proof.Machine
end

