-- ==== Sys2Proof/WellFormed.lean ====
section
/-! DEFINITION. Well-formedness: legal parameters (00_scope.md R7, R9), legal instructions, and host programs that
keep to the syntax of 30_encoding.md R78. -/

namespace Sys2Proof

/-- Every term of `Instr` is a legal transaction: `WR FREQ` takes any 32-bit value (40_clock.md R110) and no other
row has an operand (30_encoding.md R77). -/
def Instr.wf : Instr → Bool
  | .cmdCfg | .cmdStart | .cmdStop | .cmdTrig | .cmdClrDone => true
  | .rdStatus | .rdNow | .rdCapS | .rdCapW | .rdFreq => true
  | .wrFreq _ => true

/-- `W_HW` is 8 to 16 (00_scope.md R7). -/
def Params.widthLegal (p : Params) : Bool := decide (8 ≤ p.wHw) && decide (p.wHw ≤ 16)

/-- `QUANTUM` is `2^W_HW − 1` or `2^W_HW` (00_scope.md R9). -/
def Params.quantumLegal (p : Params) : Bool :=
  decide (p.quantum = 2 ^ p.wHw - 1) || decide (p.quantum = 2 ^ p.wHw)

/-- Legal parameters. -/
def Params.wf (p : Params) : Bool := p.widthLegal && p.quantumLegal

/-- A statement of a program of `n` statements keeps to 30_encoding.md R78: a transaction word is legal, a read
names its destination and a write names none, a branch tests one of 32 bits and goes to a label of the
program (its end included), and no action is outside the tables. -/
def HostStmt.wf (n : Nat) : HostStmt → Bool
  | .bus T dst =>
    match decode T with
    | .ok i => dst.isSome == i.isRead
    | .error _ => false
  | .ei => true
  | .di => true
  | .bz _ b label => decide (b < 32) && decide (label ≤ n)
  | .distance _ => true
  | .other => false

/-- A host program that keeps to the syntax. -/
def programWf (p : List HostStmt) : Bool := p.all (HostStmt.wf p.length)

end Sys2Proof
end

