-- ==== Sys2Proof/Safety.lean ====
section
/-! DEFINITION. The terms that claims use: runs, the observed state, the end of a run, the invariants of 10_state.md R41,
clock-clearing steps (40_clock.md R113), fairness (42_events.md R162, 60_exceptions.md R205), and what a read leaves. -/

namespace Sys2Proof.Machine

/-- `n` steps; a run ends at the first refusal. -/
def runSteps : Nat → State → Host.Outcome State Fault Refusal
  | 0, s => .next s
  | n + 1, s =>
    match step s with
    | .next t => runSteps n t
    | .fault f => .fault f
    | .refused r => .refused r

/-- The block's hardware state: all of 10_state.md sections 3 and 4, and `in_service` (R35). -/
structure Block where
  c : Count
  e : Word
  run : Bool
  ovfEn : Bool
  ovfPend : Bool
  sat : Bool
  capStart : Word
  capWidth : Word
  armedEnd : Bool
  done : Bool
  edgePend : Bool
  trigOut : Bool
  freq : Word
  inService : Service
deriving DecidableEq, Repr

/-- The block part of a state. -/
def State.block (s : State) : Block :=
  ⟨s.c, s.e, s.run, s.ovfEn, s.ovfPend, s.sat, s.capStart, s.capWidth, s.armedEnd, s.done, s.edgePend, s.trigOut,
   s.freq, s.inService⟩

/-- The block part of the launch state (70_reset_and_hazards.md R250). -/
def Block.afterReset : Block :=
  ⟨0, 0, false, false, false, false, 0, 0, false, false, false, false, 0, .none⟩

/-- The host has no further statement: its pc is at the end label, which is the end of its program
(43_host.md R184, log 25). -/
def State.hostAtEnd (s : State) : Bool := decide (s.program.length ≤ s.pc)

/-- The last event is a reset: a run ends there (43_host.md R184). -/
def State.justReset (s : State) : Bool :=
  match s.trace.getLast? with
  | some (.reset _) => true
  | _ => false

/-- A state in which a run ends if it has not ended before (43_host.md R184); the end itself is the first such state,
`runToEnd`. -/
def runEnded (s : State) : Bool := (s.hostAtEnd && decide (s.inService = .none)) || s.justReset

/-- No fault and no refusal is recorded: the premise of every claim about a run (60_exceptions.md R200, R202, R214). -/
def State.clean (s : State) : Bool := s.faults.isEmpty && !s.refused

/-- The launch state of a run: that of 70_reset_and_hazards.md R251, for the parameters and the program of the run, any
schedule and any start of the model's own counters (43_host.md R184). -/
def State.isLaunch (s : State) : Prop :=
  s = { State.reset with
        params := s.params, program := s.program, schedule := s.schedule
        turn := s.turn, draws := s.draws, varEpoch := s.varEpoch }

/-- The end state of the run from `s`, if the run ends within `n` steps: the FIRST state in which it can end, so a host
that a reset has restarted is in no part of this run (43_host.md R184). -/
def runToEnd : Nat → State → Option State
  | 0, s => if runEnded s then some s else none
  | n + 1, s =>
    if runEnded s then some s
    else
      match step s with
      | .next t => runToEnd n t
      | .fault _ => none
      | .refused _ => none

/-- `t` is the end state that a claim may observe of the run from the launch state `s`: the run ends there, and no fault
is recorded (43_host.md R184, 60_exceptions.md R202, R214). -/
structure Observes (s t : State) : Prop where
  launch : s.isLaunch
  paramsLegal : s.params.wf = true
  ends : ∃ n, runToEnd n s = some t
  clean : t.clean = true

/-- The invariants of 10_state.md R41, with the legal parameters and ranges they rest on. -/
structure BlockInv (s : State) : Prop where
  paramsLegal : s.params.wf = true
  counterInRange : s.c.toNat ≤ s.params.maxCount
  wholeQuanta : s.e.toNat % s.params.quantum = 0
  nowFits : s.params.nowFits = true → s.e.toNat + s.params.maxCount ≤ maxWord
  runConfigured : s.run = true → s.ovfEn = true
  satHalted : s.sat = true ↔ s.inService = .halt
  serviceConfigured : s.inService = .ovf → s.ovfEn = true
  triggerLow : s.trigOut = false

/-- The fault set and the list of written host variables are in their canonical forms. -/
def ModelInv (s : State) : Prop := FaultsWf s.faults ∧ VarsWf s.vars

/-- The coming step stops the clock or sets it to zero: `CMD STOP`, `CMD TRIG`, a capture-completing `BODY_EDGE`, a
reset (40_clock.md R113). -/
def clearsClock (s : State) : Bool :=
  match s.nextAgent with
  | .host =>
    match s.stmt with
    | some (.bus T _) =>
      decide (s.inService = .none) &&
        match decode T with
        | .ok .cmdStop => true
        | .ok .cmdTrig => s.ovfEn
        | _ => false
    | _ => false
  | .bodyEdge => decide (s.inService = .edge) && s.armedEnd
  | .por => true
  | .wdtReset => decide (s.inService = .halt)
  | _ => false

/-- None of the next `n` steps clears the clock. -/
def quiet : Nat → State → Bool
  | 0, _ => true
  | n + 1, s =>
    !clearsClock s &&
      match step s with
      | .next t => quiet n t
      | _ => false

/-- One of the steps is enabled. -/
def anyEnabled (steps : List AgentStep) (s : State) : Bool := steps.any (enabled · s)

/-- Weak fairness, along the run from `s`, of a step that has the forms `steps`: if from some point on always one of the
forms is enabled, not always the same one, then at some later point one that is enabled is taken. A premise of claims,
never a restriction of the machine. -/
def WeaklyFair (steps : List AgentStep) (s : State) : Prop :=
  ∀ n, (∀ m, n ≤ m → ∃ t, runSteps m s = .next t ∧ anyEnabled steps t = true) →
    ∃ m, n ≤ m ∧ ∃ t, runSteps m s = .next t ∧ t.nextAgent ∈ steps ∧ enabled t.nextAgent t = true

/-- A dispatch is one step in two forms, for its fairness too (60_exceptions.md R205). -/
def dispatchSteps : List AgentStep := [.dispatchOvf, .dispatchEdge]

/-- All the fairness that the spec gives: of `TICK` (42_events.md R162), a dispatch (60_exceptions.md R205), the two bodies
(R206, R208) and the watchdog's reset (42_events.md R169). -/
structure FairRun (s : State) : Prop where
  counter : WeaklyFair [.tick] s
  dispatch : WeaklyFair dispatchSteps s
  overflowBody : WeaklyFair [.bodyOvf] s
  edgeBody : WeaklyFair [.bodyEdge] s
  watchdog : WeaklyFair [.wdtReset] s

/-- `n` ticks, each wrap serviced as soon as it is latched: a dispatch and a body turn follow each tick and are taken
where they are enabled. -/
def servicedTicks : Nat → List AgentStep
  | 0 => []
  | n + 1 => .tick :: .dispatchOvf :: .bodyOvf :: servicedTicks n

/-- One serviced edge. -/
def servicedEdge : List AgentStep := [.edgeIn, .dispatchEdge, .bodyEdge]

/-- What a read of `v` leaves: the result in the `hN` its host statement names, the transaction and its result in the
trace, the host at its next statement, and all else as it was (30_encoding.md R70, R78, 40_clock.md R100). -/
def ReadLeaves (i : Instr) (v : Word) (s t : State) : Prop :=
  t = { s with vars := t.vars, trace := s.trace ++ [.bus i (some v)], pc := s.pc + 1 } ∧
  (∀ T n, s.stmt = some (.bus T (some n)) → t.var n = v ∧ ∀ m, m ≠ n → t.var m = s.var m) ∧
  ((∀ T n, s.stmt ≠ some (.bus T (some n))) → t.vars = s.vars)

end Sys2Proof.Machine
end

