-- ==== Sys2Proof/Certificates/Slice0/Obligations.lean ====
section
/-! DEFINITION. The statements about WL-MCPC, in the order of the spec's files. -/

open Sys2Proof Sys2Proof.Machine

/-! ### Encoding -/

/-- 30_encoding.md R74 with R70, R72: decoding the word of a well-formed instruction gives it back, `WR FREQ` with every
operand. -/
def Obligations.DecodeOfEncodeIsTheInstruction : Prop :=
  ∀ i : Instr, i.wf = true → decode (encode i) = .ok i

/-- 30_encoding.md R74: a word decodes to an instruction exactly when it selects the instruction's row, `WR FREQ` taking
`DATA`; no word selects two rows. -/
def Obligations.DecodeAcceptsExactlyTheOpcodeMap : Prop :=
  (∀ (T : Transaction) (i : Instr),
    decode T = .ok i ↔
      T &&& i.row.2 = i.row.1 ∧ ∀ f, i = .wrFreq f → f.toNat = T.toNat % 2 ^ 32) ∧
  ∀ (T : Transaction) (i j : Instr),
    T &&& i.row.2 = i.row.1 → T &&& j.row.2 = j.row.1 → i.row = j.row

/-- 30_encoding.md R75: what each word is rejected for, by the first check it fails; a word that none rejects decodes to
the instruction whose row it selects; a rejected word changes nothing of the block: the host's turn records the fault
and the host goes on (the host's pc is no block state, log 13). -/
def Obligations.DecodeRejectsInOrder : Prop :=
  (∀ T : Transaction,
    let size := T.toNat / 2 ^ 41
    let dir := T.toNat / 2 ^ 40 % 2
    let off := T.toNat / 2 ^ 32 % 256
    let data := T.toNat % 2 ^ 32
    (decode T = .error .busSize ↔ size ≠ 2) ∧
    (decode T = .error .busAlign ↔ size = 2 ∧ off % 4 ≠ 0) ∧
    (decode T = .error .busUnmapped ↔ size = 2 ∧ off % 4 = 0 ∧ 0x18 ≤ off) ∧
    (decode T = .error .busAccess ↔
      size = 2 ∧ (dir = 0 ∧ off = 0 ∨ dir = 1 ∧ (off = 4 ∨ off = 8 ∨ off = 12 ∨ off = 16))) ∧
    (decode T = .error .illegalCmd ↔
      size = 2 ∧ dir = 1 ∧ off = 0 ∧ (data / 256 ≠ 0 ∨ data % 256 = 0 ∨ 5 < data % 256)) ∧
    ((∀ r, decode T ≠ .error r) → ∃ i, decode T = .ok i ∧ T &&& i.row.2 = i.row.1)) ∧
  ∀ (s : State) (T : Transaction) (dst : Option Nat) (r : Reject),
    s.inService = .none → s.stmt = some (.bus T dst) → decode T = .error r →
      takeTurn .host s =
        .next { s with faults := insertRecord ⟨rejectFault r, .bus T⟩ s.faults, pc := s.pc + 1 }

/-- 30_encoding.md R80: the worked encodings, from instruction to word and back, and the three illegal words. -/
def Obligations.WorkedEncodingsDecode : Prop :=
  encode .cmdCfg = pack 0b10 1 0x00 0x00000001 ∧ encode .cmdCfg = 0x50000000001 ∧
  encode .rdNow = pack 0b10 0 0x08 0 ∧ encode .rdNow = 0x40800000000 ∧
  encode (.wrFreq 16000000) = pack 0b10 1 0x14 0x00F42400 ∧ encode (.wrFreq 16000000) = 0x51400F42400 ∧
  decode 0x50000000001 = .ok .cmdCfg ∧ decode 0x40800000000 = .ok .rdNow ∧
  decode 0x51400F42400 = .ok (.wrFreq 16000000) ∧ decode 0x00800000000 = .error .busSize ∧
  decode 0x40900000000 = .error .busAlign ∧ decode 0x50000000106 = .error .illegalCmd

/-- 20_memory.md R51: a transfer of another size than 4 bytes is rejected for its size. -/
def Obligations.NarrowTransfersAreRejected : Prop :=
  ∀ (off : BitVec 8) (n : Nat) (v : Word) (T : Transaction), n ≠ 4 →
    memRead off n = some T ∨ memWrite off n v = some T → decode T = .error .busSize

/-! ### Steps, faults and refusals -/

/-- 40_clock.md R100: where the turn placed next is the host's and its statement is a word that decodes to `i`, the
step is `exec i`, the turn taken off the schedule. -/
def Obligations.StepRunsTheDecodedTransaction : Prop :=
  ∀ (s : State) (T : Transaction) (dst : Option Nat) (i : Instr) (rest : List AgentStep),
    s.refused = false → s.schedule = .host :: rest → s.stmt = some (.bus T dst) → decode T = .ok i →
      step s = exec i { s with schedule := rest, turn := s.turn + 1 }

/-- The word that `withFetchWord` places is the next one that a step runs (the model's own placement, log 3). -/
def Obligations.PlacedWordRunsNext : Prop :=
  ∀ (s : State) (nbits w : Nat) (i : Instr),
    s.refused = false → decodeTableWord nbits w = some i →
      step (s.withFetchWord nbits w) =
        exec i { s.withFetchWord nbits w with schedule := s.schedule, turn := s.turn + 1 }

/-- 40_clock.md R100, 10_state.md R35: while a service is dispatched or the block is halted the host's step is not
enabled. That a turn which is not enabled leaves everything as it is, is the model's choice (log 2). -/
def Obligations.HostWaitsDuringService : Prop :=
  (∀ s : State, s.inService ≠ .none → enabled .host s = false ∧ ∀ i : Instr, exec i s = .next s) ∧
  ∀ (a : AgentStep) (s : State), enabled a s = false → takeTurn a s = .next s

/-- 60_exceptions.md R200: no step stops with a fault; faults are recorded beside the step (log 9). -/
def Obligations.StepNeverStopsWithAFault : Prop :=
  ∀ (s : State) (f : Fault), step s ≠ .fault f

/-- 60_exceptions.md R214: a step is refused exactly when the refusal mark is set; no step of an unmarked state is. -/
def Obligations.StepIsRefusedExactlyAfterRefusal : Prop :=
  ∀ s : State, (∃ r, step s = .refused r) ↔ s.refused = true

/-- 60_exceptions.md R210, R214 (log 18, log 24): a host action outside the tables and a saturation action that is not the
watchdog-and-halt set the refusal mark and change nothing else; after it there is no further step. -/
def Obligations.UnlistedActionsAreRefused : Prop :=
  (∀ s : State, s.inService = .none → s.stmt = some .other →
    takeTurn .host s = .next { s with refused := true }) ∧
  (∀ s : State, s.inService = .ovf → s.params.satAction = .other → s.params.satLimit ≤ s.e.toNat →
    takeTurn .bodyOvf s = .next { s with refused := true }) ∧
  ∀ s : State, s.refused = true → step s = .refused .refusalMarkSet

/-! ### The clock unit's transactions -/

/-- 40_clock.md R101: `CMD CFG`. -/
def Obligations.CmdCfgEnablesTheOverflowSource : Prop :=
  decode 0x50000000001 = .ok .cmdCfg ∧
  ∀ s : State, s.inService = .none →
    exec .cmdCfg s =
      .next { s with ovfEn := true, trace := s.trace ++ [.bus .cmdCfg none], pc := s.pc + 1 }

/-- 40_clock.md R102: `CMD START`, configured and not. That the host goes on past the fault is the model's choice (log
13), and that the trace stays as it was (log 11). -/
def Obligations.CmdStartStartsTheCounter : Prop :=
  decode 0x50000000002 = .ok .cmdStart ∧
  ∀ s : State, s.inService = .none →
    (s.ovfEn = true →
      exec .cmdStart s =
        .next { s with run := true, trace := s.trace ++ [.bus .cmdStart none], pc := s.pc + 1 }) ∧
    (s.ovfEn = false →
      exec .cmdStart s =
        .next { s with
          faults := insertRecord ⟨.startUnconfigured, .bus 0x50000000002⟩ s.faults, pc := s.pc + 1 })

/-- 40_clock.md R103: `CMD STOP`. -/
def Obligations.CmdStopZeroesTheClock : Prop :=
  decode 0x50000000003 = .ok .cmdStop ∧
  ∀ s : State, s.inService = .none →
    exec .cmdStop s =
      .next { s with
        run := false, c := 0, e := 0, ovfPend := false
        trace := s.trace ++ [.bus .cmdStop none], pc := s.pc + 1 }

/-- 40_clock.md R104: `RD NOW` returns `E + C` modulo 2^32, whatever `DATA` is; with the invariants of R41 and the
parameter values of R41b the sum does not wrap. -/
def Obligations.RdNowReturnsTheSum : Prop :=
  (∀ d : Word, decode (0x40800000000 ||| d.zeroExtend 43) = .ok .rdNow) ∧
  (∀ s : State, s.inService = .none →
    ∃ t, exec .rdNow s = .next t ∧
      ReadLeaves .rdNow (BitVec.ofNat 32 (s.e.toNat + s.c.toNat)) s t) ∧
  ∀ s : State, BlockInv s → s.params.nowFits = true → s.e.toNat + s.c.toNat ≤ maxWord

/-- 40_clock.md R106: `RD STATUS` returns the seven flags at their bits, the rest 0; in a state with the invariants of
R41 in which the host may read, bit 6 is 0. -/
def Obligations.RdStatusPacksTheFlags : Prop :=
  (∀ d : Word, decode (0x40400000000 ||| d.zeroExtend 43) = .ok .rdStatus) ∧
  (∀ s : State, s.inService = .none →
    ∃ t, exec .rdStatus s = .next t ∧
      ReadLeaves .rdStatus
        (BitVec.ofNat 32
          (s.run.toNat + 2 * s.ovfEn.toNat + 4 * s.ovfPend.toNat + 8 * s.edgePend.toNat +
            16 * s.armedEnd.toNat + 32 * s.done.toNat + 64 * s.sat.toNat)) s t) ∧
  ∀ s : State, BlockInv s → s.inService = .none → s.sat = false

/-- 40_clock.md R110: `WR FREQ, f` stores any `f` as it is. -/
def Obligations.WrFreqStoresItsOperand : Prop :=
  ∀ f : Word, decode (0x51400000000 ||| f.zeroExtend 43) = .ok (.wrFreq f) ∧
  ∀ s : State, s.inService = .none →
    exec (.wrFreq f) s =
      .next { s with freq := f, trace := s.trace ++ [.bus (.wrFreq f) none], pc := s.pc + 1 }

/-- 40_clock.md R111: `RD FREQ`. -/
def Obligations.RdFreqReturnsTheRegister : Prop :=
  (∀ d : Word, decode (0x41400000000 ||| d.zeroExtend 43) = .ok .rdFreq) ∧ State.reset.freq = 0 ∧
  ∀ s : State, s.inService = .none →
    ∃ t, exec .rdFreq s = .next t ∧ ReadLeaves .rdFreq s.freq s t

/-- 20_memory.md R57, with 10_state.md R36 for the gate: a second `CMD CFG`, `CMD START`, `CMD STOP` or `CMD CLRDONE` leaves the block as the first left
it; a read leaves the block and the host's gate as they were; `WR FREQ` changes `FREQ` only; each `CMD TRIG` of a
configured block emits a pulse, which stands before the transaction in the trace by the model's choice (log 12). -/
def Obligations.CommandsAreIdempotentAndReadsFree : Prop :=
  (∀ (i : Instr) (s t u : State), i = .cmdCfg ∨ i = .cmdStart ∨ i = .cmdStop ∨ i = .cmdClrDone →
    exec i s = .next t → exec i t = .next u → u.block = t.block) ∧
  (∀ (i : Instr) (s t : State), i.isRead = true → exec i s = .next t → t.block = s.block ∧ t.gie = s.gie) ∧
  (∀ (f : Word) (s t : State), s.inService = .none → exec (.wrFreq f) s = .next t →
    t.block = { s.block with freq := f }) ∧
  ∀ s t : State, s.inService = .none → s.ovfEn = true → exec .cmdTrig s = .next t →
    t.trace = s.trace ++ [.trigPulse, .bus .cmdTrig none]

/-! ### The capture unit's transactions -/

/-- 41_capture.md R130: `CMD TRIG`, configured and not. That the pulse stands before the transaction in the trace is the
model's choice (log 12), as are the host's next statement and the trace after the fault (log 13, log 11). -/
def Obligations.CmdTrigRestartsTheClock : Prop :=
  decode 0x50000000004 = .ok .cmdTrig ∧
  ∀ s : State, s.inService = .none →
    (s.ovfEn = true →
      exec .cmdTrig s =
        .next { s with
          trigOut := false, e := 0, c := 0, ovfPend := false, run := true, armedEnd := false
          trace := s.trace ++ [.trigPulse, .bus .cmdTrig none], pc := s.pc + 1 }) ∧
    (s.ovfEn = false →
      exec .cmdTrig s =
        .next { s with
          faults := insertRecord ⟨.startUnconfigured, .bus 0x50000000004⟩ s.faults, pc := s.pc + 1 })

/-- 41_capture.md R131: `CMD CLRDONE`. -/
def Obligations.CmdClrDoneClearsDone : Prop :=
  decode 0x50000000005 = .ok .cmdClrDone ∧
  ∀ s : State, s.inService = .none →
    exec .cmdClrDone s =
      .next { s with done := false, trace := s.trace ++ [.bus .cmdClrDone none], pc := s.pc + 1 }

/-- 41_capture.md R132: `RD CAPS`. -/
def Obligations.RdCapsReturnsTheStartTime : Prop :=
  (∀ d : Word, decode (0x40C00000000 ||| d.zeroExtend 43) = .ok .rdCapS) ∧ State.reset.capStart = 0 ∧
  ∀ s : State, s.inService = .none →
    ∃ t, exec .rdCapS s = .next t ∧ ReadLeaves .rdCapS s.capStart s t

/-- 41_capture.md R133: `RD CAPW` returns the width once `DONE = 1`; before, it returns a free word, which nothing
constrains, a new one at each read (log 6). -/
def Obligations.RdCapwReturnsTheWidthOrADraw : Prop :=
  (∀ d : Word, decode (0x41000000000 ||| d.zeroExtend 43) = .ok .rdCapW) ∧
  ∀ s : State, s.inService = .none →
    (s.done = true → ∃ t, exec .rdCapW s = .next t ∧ ReadLeaves .rdCapW s.capWidth s t) ∧
    (s.done = false → ∃ t, exec .rdCapW s = .next t ∧
      ReadLeaves .rdCapW (Config.freeWord s.draws) { s with draws := s.draws + 1 } t)

/-! ### Events -/

/-- 42_events.md R160: `TICK` is enabled exactly while `RUN = 1`, whatever `in_service` is; below the top of the range
it counts one. -/
def Obligations.TickCountsWhileRunning : Prop :=
  ∀ s : State, s.params.wf = true →
    (enabled .tick s = true ↔ s.run = true) ∧
    (s.run = true → s.c.toNat < s.params.maxCount →
      takeTurn .tick s = .next { s with c := BitVec.ofNat 16 (s.c.toNat + 1) } ∧
      (BitVec.ofNat 16 (s.c.toNat + 1)).toNat = s.c.toNat + 1)

/-- 42_events.md R161: the wrap, lost or not. -/
def Obligations.TickWrapsAtTheTop : Prop :=
  ∀ s : State, s.params.wf = true → s.run = true → s.c.toNat = s.params.maxCount →
    (s.ovfPend = true → s.inService ≠ .halt →
      takeTurn .tick s =
        .next { s with c := 0, ovfPend := true, faults := insertRecord ⟨.ovfLost, .tick⟩ s.faults }) ∧
    (s.ovfPend = false ∨ s.inService = .halt →
      takeTurn .tick s = .next { s with c := 0, ovfPend := true })

/-- 42_events.md R163: an edge is latched in every state, lost or not. -/
def Obligations.EdgeIsLatchedInEveryState : Prop :=
  ∀ s : State, enabled .edgeIn s = true ∧
    (s.edgePend = true → s.inService ≠ .halt →
      takeTurn .edgeIn s =
        .next { s with edgePend := true, faults := insertRecord ⟨.edgeLost, .edgeIn⟩ s.faults }) ∧
    (s.edgePend = false ∨ s.inService = .halt → takeTurn .edgeIn s = .next { s with edgePend := true })

/-- 42_events.md R166, R167: `EI` and `DI` write the gate; the host's step is not enabled while a service is
dispatched. -/
def Obligations.GateStatementsWriteGie : Prop :=
  ∀ s : State,
    (s.inService = .none → s.stmt = some .ei → takeTurn .host s = .next { s with gie := true, pc := s.pc + 1 }) ∧
    (s.inService = .none → s.stmt = some .di → takeTurn .host s = .next { s with gie := false, pc := s.pc + 1 }) ∧
    (s.inService ≠ .none → enabled .host s = false)

/-- 30_encoding.md R78: `BZ hN.<bit>, label` moves the host's pc only; a host variable that nothing has written is a free
value (log 5), and that a bit from 32 up reads 0 is the model's choice (log 27). -/
def Obligations.BranchOnZeroBitMovesThePc : Prop :=
  ∀ (s : State) (h b label : Nat), s.inService = .none → s.stmt = some (.bz h b label) →
    takeTurn .host s =
      .next { s with pc := if (s.var h).toNat / 2 ^ b % 2 = 0 then label else s.pc + 1 }

/-- 43_host.md R180, R181: the distance is `CAP_WIDTH × 0.017` exactly, here in thousandths of a centimetre (log 19). That
the conversion is a turn of the host of its own is the model's choice (log 28), and a host variable that nothing has
written is a free value (log 5). -/
def Obligations.DistanceIsExact : Prop :=
  (∀ (s : State) (h : Nat), s.inService = .none → s.stmt = some (.distance h) →
    takeTurn .host s = .next { s with distance := some (distanceMilli (s.var h)), pc := s.pc + 1 }) ∧
  ∀ w : Word, (distanceMilli w : ℚ) / 1000 = (w.toNat : ℚ) * (17 / 1000)

/-- 30_encoding.md R79, 43_host.md R180: the words of `CONFIGURE f` for every `f`, `NOW`, `POLL_DONE`, `READ_SYNC` and
`read_sync()`, whose distance conversion is a host statement of its own by the model's choice (log 28). -/
def Obligations.ReadSyncIssuesItsWords : Prop :=
  (∀ f : Word, pseudoConfigure f =
    [.bus (0x51400000000 ||| f.zeroExtend 43) none, .bus 0x50000000001 none]) ∧
  pseudoConfigure 16000000 = [.bus 0x51400F42400 none, .bus 0x50000000001 none] ∧
  (∀ n, pseudoNow n = [.bus 0x40800000000 (some n)]) ∧
  (∀ k n, pseudoPollDone k n = [.bus 0x40400000000 (some n), .bz n 5 k]) ∧
  (∀ k n, pseudoReadSync k n =
    [.bus 0x50000000005 none, .bus 0x50000000004 none, .bus 0x40400000000 (some n), .bz n 5 (k + 2),
     .bus 0x41000000000 (some n)]) ∧
  ∀ k m n, readSyncDistance k m n =
    [.bus 0x50000000005 none, .bus 0x50000000004 none, .bus 0x40400000000 (some m), .bz m 5 (k + 2),
     .bus 0x41000000000 (some n), .distance n]

/-! ### Services -/

/-- 60_exceptions.md R205 with R203, R211(a): a dispatch needs the gate open and no service in progress; overflow is
taken first. -/
def Obligations.DispatchTakesOverflowFirst : Prop :=
  ∀ s : State,
    (s.gie = true → s.inService = .none →
      (s.ovfPend = true ∧ s.ovfEn = true →
        takeTurn .dispatchOvf s = .next { s with ovfPend := false, inService := .ovf } ∧
        enabled .dispatchEdge s = false) ∧
      (s.ovfPend = false ∨ s.ovfEn = false →
        enabled .dispatchOvf s = false ∧
        (s.edgePend = true →
          takeTurn .dispatchEdge s = .next { s with edgePend := false, inService := .edge }) ∧
        (s.edgePend = false → enabled .dispatchEdge s = false))) ∧
    (s.gie = false ∨ s.inService ≠ .none →
      enabled .dispatchOvf s = false ∧ enabled .dispatchEdge s = false)

/-- 60_exceptions.md R207: the overflow body adds one quantum, without a wrap, below `SAT_LIMIT`, and saturates at it
with `E` unchanged; it runs only in its service. -/
def Obligations.BodyOvfAddsAQuantumOrSaturates : Prop :=
  (∀ s : State, s.params.wf = true → s.inService = .ovf →
    (s.e.toNat < s.params.satLimit →
      takeTurn .bodyOvf s =
        .next { s with e := BitVec.ofNat 32 (s.e.toNat + s.params.quantum), inService := .none } ∧
      s.e.toNat + s.params.quantum < 2 ^ 32) ∧
    (s.params.satLimit ≤ s.e.toNat → s.params.satAction = .watchdogHalt →
      takeTurn .bodyOvf s =
        .next { s with sat := true, trace := s.trace ++ [.satReq], inService := .halt })) ∧
  (∀ s : State, enabled .bodyOvf s = true ↔ s.inService = .ovf) ∧
  State.reset.params.satLimit = 0xFFFFFF00

/-- 60_exceptions.md R208: the edge body, start edge and end edge, by exact arithmetic modulo 2^32; it runs only in its
service. -/
def Obligations.BodyEdgeCaptures : Prop :=
  (∀ s : State, s.inService = .edge →
    (s.armedEnd = false →
      takeTurn .bodyEdge s =
        .next { s with
          capStart := BitVec.ofNat 32 (s.e.toNat + s.c.toNat), armedEnd := true, inService := .none }) ∧
    (s.armedEnd = true →
      takeTurn .bodyEdge s =
        .next { s with
          capWidth := BitVec.ofInt 32 (s.e.toNat + s.c.toNat - s.capStart.toNat), done := true
          run := false, c := 0, e := 0, ovfPend := false, inService := .none })) ∧
  ∀ s : State, enabled .bodyEdge s = true ↔ s.inService = .edge

/-- 41_capture.md R136: after an end edge, a third serviced edge computes `0 − CAP_START` and sets `DONE` again. -/
def Obligations.ThirdEdgeGivesTheGarbageWidth : Prop :=
  ∀ (s : State) (rest : List AgentStep),
    s.refused = false → s.gie = true → s.inService = .edge → s.armedEnd = true →
    s.schedule = .bodyEdge :: (servicedEdge ++ rest) →
      ∃ t, runSteps 4 s = .next t ∧ t.capWidth = BitVec.ofInt 32 (-(s.capStart.toNat : Int)) ∧
        t.capStart = s.capStart ∧ t.done = true ∧ t.armedEnd = true ∧ t.run = false ∧ t.c = 0 ∧ t.e = 0

/-- 60_exceptions.md R209, R221: once halted, every step leaves the block halted, its accumulator and the trace as they
were and no fault recorded, unless it is a reset. -/
def Obligations.HaltEndsOnlyAtAReset : Prop :=
  ∀ s t : State, s.inService = .halt → step s = .next t →
    (t.inService = .halt ∧ t.e = s.e ∧ t.sat = s.sat ∧ t.faults = s.faults ∧ t.trace = s.trace ∧ t.pc = s.pc) ∨
    ((s.nextAgent = .por ∨ s.nextAgent = .wdtReset) ∧ t.block = Block.afterReset ∧
      ∃ k, t.trace = s.trace ++ [.reset k])

/-- 60_exceptions.md R213: no nesting. From a service a step stays in it, returns to the host, or saturates. -/
def Obligations.ServicesDoNotNest : Prop :=
  ∀ s t : State, s.inService ≠ .none → step s = .next t →
    t.inService = s.inService ∨ t.inService = .none ∨ (s.inService = .ovf ∧ t.inService = .halt)

/-! ### Reset -/

/-- 70_reset_and_hazards.md R250, 42_events.md R168, R169: both resets, `POR` in every state and `WDT_RESET` only in
`HALT`. That the host's variables become undefined again (`vars`, `varEpoch`, `distance`) is the model's reading of
"host restarts its program" (log 14). -/
def Obligations.ResetClearsAllButTheRecords : Prop :=
  let after := fun (s : State) (k : ResetKind) =>
    { s with
      c := 0, e := 0, run := false, ovfEn := false, ovfPend := false, sat := false
      capStart := 0, capWidth := 0, armedEnd := false, done := false, edgePend := false, trigOut := false
      freq := 0, inService := .none, gie := false, pc := 0
      vars := [], varEpoch := s.varEpoch + 1, distance := none, trace := s.trace ++ [.reset k] }
  ∀ s : State,
    takeTurn .por s = .next (after s .por) ∧
    (s.inService = .halt → takeTurn .wdtReset s = .next (after s .wdt)) ∧
    (s.inService ≠ .halt → enabled .wdtReset s = false)

/-- 70_reset_and_hazards.md R251: the launch state. -/
def Obligations.LaunchStateIsTheResetState : Prop :=
  State.reset.block = Block.afterReset ∧ State.reset.gie = false ∧ State.reset.faults = [] ∧
  State.reset.refused = false ∧ State.reset.trace = [] ∧
  State.reset.params.wHw = 8 ∧ State.reset.params.quantum = 255

/-- 70_reset_and_hazards.md R254: until the host does something the reset state is stable; an edge latches and is not
serviced. -/
def Obligations.ResetStateIsStable : Prop :=
  (∀ a : AgentStep, a ≠ .edgeIn → a ≠ .por → a ≠ .host → enabled a State.reset = false) ∧
  ∃ t, takeTurn .edgeIn State.reset = .next t ∧ t = { State.reset with edgePend := true } ∧
    enabled .dispatchEdge t = false

/-! ### Rules of the whole machine -/

/-- 10_state.md R41: every step keeps the invariants, from every state that has them. -/
def Obligations.BlockInvariantsAreKept : Prop :=
  ∀ s t : State, BlockInv s → step s = .next t → BlockInv t

/-- 10_state.md R41: the launch state has the invariants. -/
def Obligations.BlockInvariantsHoldAtReset : Prop := BlockInv State.reset

/-- The fault set and the host variables keep their canonical forms, and have them at launch (log 9, log 5). -/
def Obligations.CanonicalFormsAreKept : Prop :=
  ModelInv State.reset ∧ ∀ s t : State, ModelInv s → step s = .next t → ModelInv t

/-- 60_exceptions.md R202, 10_state.md R37: no agent's turn, a reset among them, removes a fault, clears the refusal mark
or drops an event from the trace; the parameters and the program of a run stay (R42). This is of every turn, those of a
marked state among them, which `step` no longer takes; and a step is such a turn. -/
def Obligations.RecordsAreNeverLost : Prop :=
  (∀ (a : AgentStep) (s t : State), takeTurn a s = .next t →
    (∀ r, r ∈ s.faults → r ∈ t.faults) ∧ (s.refused = true → t.refused = true) ∧ s.trace <+: t.trace ∧
    t.params = s.params ∧ t.program = s.program) ∧
  ∀ s t : State, step s = .next t →
    (∀ r, r ∈ s.faults → r ∈ t.faults) ∧ s.trace <+: t.trace ∧ t.params = s.params ∧ t.program = s.program

/-- 10_state.md R25, R27: `OVF_EN` and `SAT` are cleared only by a reset. -/
def Obligations.OvfEnAndSatAreClearedOnlyByReset : Prop :=
  ∀ s t : State, step s = .next t →
    (s.ovfEn = true ∧ t.ovfEn = false) ∨ (s.sat = true ∧ t.sat = false) →
      ∃ k, t.trace = s.trace ++ [.reset k]

/-- 10_state.md R23: `E` changes only by one quantum in the overflow body, or to 0 in a step that clears the clock. -/
def Obligations.AccumulatorHasNoOtherWriter : Prop :=
  ∀ s t : State, step s = .next t → t.e ≠ s.e →
    (s.nextAgent = .bodyOvf ∧ s.inService = .ovf ∧ t.e = s.e + BitVec.ofNat 32 s.params.quantum) ∨
    (clearsClock s = true ∧ t.e = 0)

/-- 41_capture.md R138: the four capture fields change only in `CMD TRIG` (`ARMED_END`), `CMD CLRDONE` (`DONE`),
`BODY_EDGE` and reset. -/
def Obligations.CaptureFieldsHaveNoOtherWriter : Prop :=
  ∀ s t : State, step s = .next t →
    (t.capStart = s.capStart ∧ t.capWidth = s.capWidth ∧ t.armedEnd = s.armedEnd ∧ t.done = s.done) ∨
    (s.nextAgent = .bodyEdge ∧ s.inService = .edge) ∨
    (∃ k, t.trace = s.trace ++ [.reset k]) ∨
    (s.nextAgent = .host ∧ ∃ T dst, s.stmt = some (.bus T dst) ∧
      t.capStart = s.capStart ∧ t.capWidth = s.capWidth ∧
      ((decode T = .ok .cmdTrig ∧ t.armedEnd = false ∧ t.done = s.done) ∨
       (decode T = .ok .cmdClrDone ∧ t.armedEnd = s.armedEnd ∧ t.done = false)))

/-- 10_state.md R36: the host's gate changes only by `EI`, `DI` and reset. -/
def Obligations.GateHasNoOtherWriter : Prop :=
  ∀ s t : State, step s = .next t → t.gie ≠ s.gie →
    (s.nextAgent = .host ∧ (s.stmt = some .ei ∨ s.stmt = some .di)) ∨ ∃ k, t.trace = s.trace ++ [.reset k]

/-! ### Laws -/

/-- 40_clock.md R105: after a wrap and before its body, `NOW` is the old `E`; after the body it is one quantum more. -/
def Obligations.PendingWindowLagsByAQuantum : Prop :=
  ∀ (s : State) (rest : List AgentStep), BlockInv s → s.refused = false → s.run = true → s.gie = true →
    s.inService = .none → s.ovfPend = false → s.c.toNat = s.params.maxCount → s.e.toNat < s.params.satLimit →
    s.schedule = .tick :: .dispatchOvf :: .bodyOvf :: rest →
      ∃ t u, step s = .next t ∧ t.now = s.e ∧ t.ovfPend = true ∧
        runSteps 3 s = .next u ∧ u.now.toNat = s.e.toNat + s.params.quantum ∧ u.ovfPend = false ∧
        u.inService = .none

/-- 60_exceptions.md R222: a wrap between an edge's dispatch and its body is not in the timestamp: a start edge records
the old `E` and the wrap stays pending, an end edge's width is computed from the old `E` and its stop drops the wrap. -/
def Obligations.WrapInTheEdgeServiceIsNotInTheTimestamp : Prop :=
  ∀ (s : State) (rest : List AgentStep), s.params.wf = true → s.refused = false → s.inService = .edge →
    s.run = true → s.ovfPend = false → s.c.toNat = s.params.maxCount →
    s.schedule = .tick :: .bodyEdge :: rest →
      ∃ t, runSteps 2 s = .next t ∧ t.inService = .none ∧ t.faults = s.faults ∧
        (s.armedEnd = false → t.capStart = s.e ∧ t.armedEnd = true ∧ t.ovfPend = true) ∧
        (s.armedEnd = true →
          t.capWidth = BitVec.ofInt 32 (s.e.toNat - s.capStart.toNat) ∧ t.done = true ∧ t.ovfPend = false)

/-- 70_reset_and_hazards.md R258: an edge latched before `CMD TRIG` is serviced after it as the start edge, against the
fresh clock: here with no tick between, so `CAP_START` is 0. -/
def Obligations.StaleEdgeIsTakenAsTheStartEdge : Prop :=
  ∀ (s : State) (rest : List AgentStep) (dst : Option Nat), s.refused = false → s.inService = .none →
    s.gie = true → s.ovfEn = true → s.edgePend = true → s.stmt = some (.bus 0x50000000004 dst) →
    s.schedule = .host :: .dispatchEdge :: .bodyEdge :: rest →
      ∃ t, runSteps 3 s = .next t ∧ t.capStart = 0 ∧ t.armedEnd = true ∧ t.edgePend = false ∧
        t.done = s.done ∧ t.run = true ∧ t.inService = .none

/-- 40_clock.md R113: `NOW` does not decrease over steps none of which clears the clock, between two states in which
the host may read, no wrap pending at either and no fault recorded, for the parameter values with which `NOW` never
wraps (10_state.md R41b); the invariants of R41 are the premise on the first state. -/
def Obligations.NowIsMonotone : Prop :=
  ∀ (n : Nat) (s t : State), BlockInv s → s.params.nowFits = true → quiet n s = true → runSteps n s = .next t →
    s.inService = .none → s.ovfPend = false → t.inService = .none → t.ovfPend = false → t.faults = [] →
      s.now.toNat ≤ t.now.toNat

/-- 40_clock.md R114, R115: `n` ticks from zero with every wrap serviced at once. `N = ⌊n/2^W_HW⌋` wraps give
`E = N·QUANTUM` and `NOW = N·QUANTUM + C`, short of saturation; with the defaults `NOW = n − ⌊n/256⌋`, with
`QUANTUM = 256` `NOW = n`. -/
def Obligations.NowFollowsTheDriftLaw : Prop :=
  ∀ (n : Nat) (s : State) (rest : List AgentStep), s.params.wf = true → s.refused = false → s.run = true →
    s.ovfEn = true → s.gie = true → s.inService = .none → s.ovfPend = false → s.c = 0 → s.e = 0 →
    s.params.quantum * (n / 2 ^ s.params.wHw) < maxWord → s.schedule = servicedTicks n ++ rest →
      ∃ t, runSteps (3 * n) s = .next t ∧ t.c.toNat = n % 2 ^ s.params.wHw ∧
        t.e.toNat = s.params.quantum * (n / 2 ^ s.params.wHw) ∧ t.ovfPend = false ∧ t.inService = .none ∧
        t.faults = s.faults ∧
        t.now.toNat = (n / 2 ^ s.params.wHw * s.params.quantum + t.c.toNat) % 2 ^ 32 ∧
        (s.params.wHw = 8 → s.params.quantum = 255 → t.now.toNat = n - n / 256) ∧
        (s.params.wHw = 8 → s.params.quantum = 256 → t.now.toNat = n)

/-- 41_capture.md R134: the capture sequence, each wrap and each edge serviced at once. -/
def Obligations.CaptureMeasuresThePulse : Prop :=
  ∀ (a b : Nat) (s : State) (d₁ d₂ : Option Nat) (rest : List AgentStep),
    s.params.wf = true → s.params.nowFits = true → s.refused = false → s.ovfEn = true → s.gie = true →
    s.edgePend = false → s.inService = .none → s.faults = [] →
    s.program[s.pc]? = some (.bus 0x50000000005 d₁) → s.program[s.pc + 1]? = some (.bus 0x50000000004 d₂) →
    s.params.quantum * ((a + b) / 2 ^ s.params.wHw) < maxWord →
    s.schedule = .host :: .host :: (servicedTicks a ++ (servicedEdge ++ (servicedTicks b ++ (servicedEdge ++ rest)))) →
      ∃ t, runSteps (2 + 3 * a + 3 + 3 * b + 3) s = .next t ∧
        t.capStart.toNat = a - a / 2 ^ s.params.wHw * (2 ^ s.params.wHw - s.params.quantum) ∧
        t.capWidth.toNat + t.capStart.toNat =
          a + b - (a + b) / 2 ^ s.params.wHw * (2 ^ s.params.wHw - s.params.quantum) ∧
        t.done = true ∧ t.run = false ∧ t.e = 0 ∧ t.c = 0 ∧ t.faults = [] ∧ t.inService = .none

/-- 70_reset_and_hazards.md R257: with the gate closed nothing but the host or a reset clears a pending wrap. -/
def Obligations.ClosedGateKeepsAPendingWrap : Prop :=
  ∀ s t : State, s.gie = false → s.inService = .none → s.ovfPend = true → s.nextAgent ≠ .host →
    s.nextAgent ≠ .por → step s = .next t → t.ovfPend = true ∧ t.gie = false ∧ t.inService = .none

/-- 42_events.md R169, 60_exceptions.md R221: along a run that is weakly fair to the watchdog, a halted block is reset.
Fairness is a premise (log 16). -/
def Obligations.HaltedBlockIsReset : Prop :=
  ∀ s : State, s.inService = .halt → s.refused = false → WeaklyFair [.wdtReset] s →
    ∃ n t, runSteps n s = .next t ∧ t.block = Block.afterReset ∧ t.gie = false

/-- 60_exceptions.md R205: along a run that is weakly fair to dispatch as one step, with the gate open, no service in
progress, the host at its end and a request asserted, a service is dispatched or a reset comes first. Fairness is a
premise (log 16). -/
def Obligations.RequestedServiceIsDispatched : Prop :=
  ∀ s : State, s.refused = false → s.gie = true → s.inService = .none → s.hostAtEnd = true →
    (s.irqOvf || s.irqEdge) = true → WeaklyFair dispatchSteps s →
      ∃ n t, runSteps n s = .next t ∧
        (t.inService = .ovf ∨ t.inService = .edge ∨ ∃ k, t.trace = s.trace ++ [.reset k])

/-- 43_host.md R184: a run ends at the first state in which it can end, so it has at most one end state; a run that takes
a reset before any end ends at that reset. That the end label is the program's end is the model's choice (log 25). -/
def Obligations.RunEndsAtTheFirstEndState : Prop :=
  (∀ (n : Nat) (s t : State), runToEnd n s = some t ↔
    ∃ m, m ≤ n ∧ runSteps m s = .next t ∧ runEnded t = true ∧
      ∀ k, k < m → ∃ u, runSteps k s = .next u ∧ runEnded u = false) ∧
  (∀ (n m : Nat) (s t u : State), runToEnd n s = some t → runToEnd m s = some u → t = u) ∧
  ∀ s : State, s.refused = false → runEnded s = false →
    s.nextAgent = .por ∨ (s.nextAgent = .wdtReset ∧ s.inService = .halt) →
      ∃ t k, runToEnd 1 s = some t ∧ t.trace = s.trace ++ [.reset k] ∧ t.block = Block.afterReset
end

