-- ==== Sys2Proof/Laws/Decode.lean ====
section
/-! SUPPORT. The fields of a transaction word as numbers, and of a packed word as its parts. -/

namespace Sys2Proof

theorem Transaction.size_toNat (T : Transaction) : (Transaction.size T).toNat = T.toNat / 2 ^ 41 := by
  have := T.isLt
  simp only [Transaction.size, BitVec.extractLsb'_toNat, Nat.shiftRight_eq_div_pow]
  omega

theorem Transaction.off_toNat (T : Transaction) : (Transaction.off T).toNat = T.toNat / 2 ^ 32 % 256 := by
  simp only [Transaction.off, BitVec.extractLsb'_toNat, Nat.shiftRight_eq_div_pow]

theorem Transaction.data_toNat (T : Transaction) : (Transaction.data T).toNat = T.toNat % 2 ^ 32 := by
  simp only [Transaction.data, BitVec.extractLsb'_toNat, Nat.shiftRight_eq_div_pow]
  simp

theorem Transaction.isWrite_iff (T : Transaction) : Transaction.isWrite T = true ↔ T.toNat / 2 ^ 40 % 2 = 1 := by
  simp only [Transaction.isWrite, BitVec.getLsbD, Nat.testBit_eq_decide_div_mod_eq, decide_eq_true_eq]

theorem opcOf_toNat (d : Word) : (opcOf d).toNat = d.toNat % 256 := by
  simp [opcOf, BitVec.extractLsb'_toNat]

theorem rsvOf_toNat (d : Word) : (rsvOf d).toNat = d.toNat / 256 := by
  have := d.isLt
  simp only [rsvOf, BitVec.extractLsb'_toNat, Nat.shiftRight_eq_div_pow]
  omega

/-- A packed word as a number. -/
theorem pack_toNat (sz : BitVec 2) (dir : BitVec 1) (off : BitVec 8) (data : Word) :
    (pack sz dir off data).toNat = sz.toNat * 2 ^ 41 + dir.toNat * 2 ^ 40 + off.toNat * 2 ^ 32 + data.toNat := by
  have h1 := dir.isLt
  have h2 := off.isLt
  have h3 := data.isLt
  simp only [pack, BitVec.toNat_append]
  rw [← Nat.shiftLeft_add_eq_or_of_lt h1, ← Nat.shiftLeft_add_eq_or_of_lt h2, ← Nat.shiftLeft_add_eq_or_of_lt h3]
  simp only [Nat.shiftLeft_eq]
  omega

@[simp] theorem pack_size (sz : BitVec 2) (dir : BitVec 1) (off : BitVec 8) (data : Word) :
    Transaction.size (pack sz dir off data) = sz := by
  have h0 := sz.isLt
  have h1 := dir.isLt
  have h2 := off.isLt
  have h3 := data.isLt
  apply BitVec.eq_of_toNat_eq
  rw [Transaction.size_toNat, pack_toNat]
  omega

@[simp] theorem pack_off (sz : BitVec 2) (dir : BitVec 1) (off : BitVec 8) (data : Word) :
    Transaction.off (pack sz dir off data) = off := by
  have h2 := off.isLt
  have h3 := data.isLt
  apply BitVec.eq_of_toNat_eq
  rw [Transaction.off_toNat, pack_toNat]
  omega

@[simp] theorem pack_data (sz : BitVec 2) (dir : BitVec 1) (off : BitVec 8) (data : Word) :
    Transaction.data (pack sz dir off data) = data := by
  have h3 := data.isLt
  apply BitVec.eq_of_toNat_eq
  rw [Transaction.data_toNat, pack_toNat]
  omega

theorem pack_isWrite (sz : BitVec 2) (dir : BitVec 1) (off : BitVec 8) (data : Word) :
    Transaction.isWrite (pack sz dir off data) = true ↔ dir = 1 := by
  have h1 := dir.isLt
  have h2 := off.isLt
  have h3 := data.isLt
  rw [Transaction.isWrite_iff, pack_toNat, ← BitVec.toNat_inj]
  simp only [BitVec.ofNat_eq_ofNat, BitVec.toNat_ofNat]
  omega

/-- The word with its low 32 bits cleared, as the read and `FREQ` masks leave it, is its top 11 bits. -/
theorem and_topMask_eq_iff (T : Transaction) (m : BitVec 11) :
    T &&& 0x7FF00000000 = m ++ (0 : Word) ↔ T.toNat / 2 ^ 32 = m.toNat := by
  have hT : T = T.extractLsb' 32 11 ++ T.extractLsb' 0 32 := by
    rw [BitVec.extractLsb'_append_extractLsb'_eq_extractLsb' (by rfl)]
    simp
  have hm : (0x7FF00000000 : Transaction) = BitVec.allOnes 11 ++ (0 : Word) := rfl
  have hn : (T.extractLsb' 32 11).toNat = T.toNat / 2 ^ 32 := by
    have := T.isLt
    simp only [BitVec.extractLsb'_toNat, Nat.shiftRight_eq_div_pow]
    omega
  conv_lhs => rw [hT, hm, BitVec.and_append]
  rw [← hn, BitVec.toNat_inj]
  simp only [BitVec.and_allOnes]
  constructor
  · intro h
    have h' := congrArg BitVec.toNat h
    simp only [BitVec.toNat_append, BitVec.and_zero, BitVec.ofNat_eq_ofNat, BitVec.toNat_ofNat, Nat.zero_mod, Nat.or_zero,
      Nat.shiftLeft_eq] at h'
    apply BitVec.eq_of_toNat_eq
    omega
  · rintro h
    rw [h]
    simp

/-- The decoder on the fields as numbers: `SIZE`, `DIR`, `OFF`, `RSV`, `OPC`, and `DATA` (30_encoding.md R75). -/
def decodeFields (size dir off rsv opc : Nat) (data : Word) : Except Reject Instr :=
  if size ≠ 2 then .error .busSize
  else if off % 4 ≠ 0 then .error .busAlign
  else if 24 ≤ off then .error .busUnmapped
  else if dir = 1 then
    (if off = 0 then
      (if rsv ≠ 0 then .error .illegalCmd
       else if opc = 1 then .ok .cmdCfg
       else if opc = 2 then .ok .cmdStart
       else if opc = 3 then .ok .cmdStop
       else if opc = 4 then .ok .cmdTrig
       else if opc = 5 then .ok .cmdClrDone
       else .error .illegalCmd)
     else if off = 20 then .ok (.wrFreq data)
     else .error .busAccess)
  else if off = 4 then .ok .rdStatus
  else if off = 8 then .ok .rdNow
  else if off = 12 then .ok .rdCapS
  else if off = 16 then .ok .rdCapW
  else if off = 20 then .ok .rdFreq
  else .error .busAccess

/-- The decoder reads a word by its fields alone. -/
theorem decode_eq_decodeFields (T : Transaction) :
    decode T = decodeFields (T.toNat / 2 ^ 41) (T.toNat / 2 ^ 40 % 2) (T.toNat / 2 ^ 32 % 256)
      (T.toNat % 2 ^ 32 / 256) (T.toNat % 2 ^ 32 % 256) (Transaction.data T) := by
  have hsz : (Transaction.size T = 0b10) ↔ T.toNat / 2 ^ 41 = 2 := by
    rw [← BitVec.toNat_inj, Transaction.size_toNat]; rfl
  have hal : ((Transaction.off T).extractLsb' 0 2 = 0) ↔ T.toNat / 2 ^ 32 % 256 % 4 = 0 := by
    rw [← BitVec.toNat_inj, BitVec.extractLsb'_toNat, Transaction.off_toNat, Nat.shiftRight_zero]; rfl
  have hoff : ∀ k : BitVec 8, (Transaction.off T = k) ↔ T.toNat / 2 ^ 32 % 256 = k.toNat := fun k => by
    rw [← BitVec.toNat_inj, Transaction.off_toNat]
  have hopc : ∀ k : BitVec 8, (opcOf (Transaction.data T) = k) ↔ T.toNat % 2 ^ 32 % 256 = k.toNat := fun k => by
    rw [← BitVec.toNat_inj, opcOf_toNat, Transaction.data_toNat]
  have hrsv : (rsvOf (Transaction.data T) = 0) ↔ T.toNat % 2 ^ 32 / 256 = 0 := by
    rw [← BitVec.toNat_inj, rsvOf_toNat, Transaction.data_toNat]; rfl
  unfold decode decodeFields
  refine if_congr (not_congr hsz) rfl ?_
  by_cases h4 : T.toNat / 2 ^ 32 % 256 % 4 = 0
  swap
  · rw [if_pos (show (Transaction.off T).extractLsb' 0 2 ≠ 0 by rwa [ne_eq, hal]), if_pos h4]
  rw [if_neg (show ¬ (Transaction.off T).extractLsb' 0 2 ≠ 0 by rw [ne_eq, hal, not_not]; exact h4),
    if_neg (show ¬ T.toNat / 2 ^ 32 % 256 % 4 ≠ 0 by omega)]
  have hmap : ((!mapped (Transaction.off T)) = true) ↔ 24 ≤ T.toNat / 2 ^ 32 % 256 := by
    rw [Bool.not_eq_true', ← Bool.not_eq_true]
    unfold mapped
    rw [Bool.or_eq_true, Bool.or_eq_true, Bool.or_eq_true, Bool.or_eq_true, Bool.or_eq_true, beq_iff_eq, beq_iff_eq,
      beq_iff_eq, beq_iff_eq, beq_iff_eq, beq_iff_eq, hoff, hoff, hoff, hoff, hoff, hoff]
    simp only [BitVec.ofNat_eq_ofNat, BitVec.toNat_ofNat]
    omega
  refine if_congr hmap rfl (if_congr (Transaction.isWrite_iff T) ?_ ?_)
  · unfold decodeWrite decodeCommand
    exact if_congr (hoff 0)
      (if_congr (not_congr hrsv) rfl (if_congr (hopc 1) rfl (if_congr (hopc 2) rfl (if_congr (hopc 3) rfl
        (if_congr (hopc 4) rfl (if_congr (hopc 5) rfl rfl))))))
      (if_congr (hoff 0x14) rfl rfl)
  · unfold decodeRead
    exact if_congr (hoff 4) rfl (if_congr (hoff 8) rfl (if_congr (hoff 12) rfl (if_congr (hoff 16) rfl
      (if_congr (hoff 20) rfl rfl))))

/-- What the fields of an accepted word are (30_encoding.md R74). -/
theorem decodeFields_ok {size dir off rsv opc : Nat} {d : Word} {i : Instr}
    (h : decodeFields size dir off rsv opc d = .ok i) :
    size = 2 ∧
      match i with
      | .cmdCfg => dir = 1 ∧ off = 0 ∧ rsv = 0 ∧ opc = 1
      | .cmdStart => dir = 1 ∧ off = 0 ∧ rsv = 0 ∧ opc = 2
      | .cmdStop => dir = 1 ∧ off = 0 ∧ rsv = 0 ∧ opc = 3
      | .cmdTrig => dir = 1 ∧ off = 0 ∧ rsv = 0 ∧ opc = 4
      | .cmdClrDone => dir = 1 ∧ off = 0 ∧ rsv = 0 ∧ opc = 5
      | .rdStatus => dir ≠ 1 ∧ off = 4
      | .rdNow => dir ≠ 1 ∧ off = 8
      | .rdCapS => dir ≠ 1 ∧ off = 12
      | .rdCapW => dir ≠ 1 ∧ off = 16
      | .rdFreq => dir ≠ 1 ∧ off = 20
      | .wrFreq f => dir = 1 ∧ off = 20 ∧ f = d := by
  unfold decodeFields at h
  iterate 3 (split at h; · cases h)
  split at h
  · split at h
    · split at h
      · cases h
      · iterate 5 (split at h; · cases h; simp only; omega)
        cases h
    · split at h
      · cases h
        refine ⟨by omega, by omega, by omega, rfl⟩
      · cases h
  · iterate 5 (split at h; · cases h; simp only; omega)
    cases h

/-- When the fields are rejected, and for what (30_encoding.md R75). -/
theorem decodeFields_error {size dir off rsv opc : Nat} {d : Word} {r : Reject}
    (h : decodeFields size dir off rsv opc d = .error r) :
    match r with
    | .busSize => size ≠ 2
    | .busAlign => size = 2 ∧ off % 4 ≠ 0
    | .busUnmapped => size = 2 ∧ off % 4 = 0 ∧ 24 ≤ off
    | .busAccess => size = 2 ∧ (dir ≠ 1 ∧ off = 0 ∨ dir = 1 ∧ (off = 4 ∨ off = 8 ∨ off = 12 ∨ off = 16))
    | .illegalCmd => size = 2 ∧ dir = 1 ∧ off = 0 ∧ (rsv ≠ 0 ∨ opc = 0 ∨ 5 < opc) := by
  unfold decodeFields at h
  iterate 3 (split at h; · cases h; simp only; omega)
  split at h
  · split at h
    · split at h
      · cases h; simp only; omega
      · iterate 5 (split at h; · cases h)
        cases h; simp only; omega
    · split at h
      · cases h
      · cases h; simp only; omega
  · iterate 5 (split at h; · cases h)
    cases h; simp only; omega

theorem topRow_iff (T : Transaction) (m : BitVec 11) (w : Transaction) (h : w = m ++ (0 : Word)) (k : Nat)
    (hk : k = m.toNat) : T &&& 0x7FF00000000 = w ↔ T.toNat / 2 ^ 32 = k := by
  rw [h, and_topMask_eq_iff, hk]

theorem commandRow_iff (T : Transaction) (m : Transaction) (k : Nat) (hk : k = m.toNat) :
    T &&& 0x7FFFFFFFFFF = m ↔ T.toNat = k := by
  rw [show (0x7FFFFFFFFFF : Transaction) = BitVec.allOnes 43 from rfl, BitVec.and_allOnes, hk, BitVec.toNat_inj]

/-- Selecting a row of the opcode map, in numbers (30_encoding.md R74). -/
theorem row_iff (T : Transaction) (i : Instr) : T &&& i.row.2 = i.row.1 ↔
    match i with
    | .cmdCfg => T.toNat = 0x50000000001
    | .cmdStart => T.toNat = 0x50000000002
    | .cmdStop => T.toNat = 0x50000000003
    | .cmdTrig => T.toNat = 0x50000000004
    | .cmdClrDone => T.toNat = 0x50000000005
    | .rdStatus => T.toNat / 2 ^ 32 = 0x404
    | .rdNow => T.toNat / 2 ^ 32 = 0x408
    | .rdCapS => T.toNat / 2 ^ 32 = 0x40C
    | .rdCapW => T.toNat / 2 ^ 32 = 0x410
    | .rdFreq => T.toNat / 2 ^ 32 = 0x414
    | .wrFreq _ => T.toNat / 2 ^ 32 = 0x514 := by
  cases i
  case cmdCfg => exact commandRow_iff T _ _ rfl
  case cmdStart => exact commandRow_iff T _ _ rfl
  case cmdStop => exact commandRow_iff T _ _ rfl
  case cmdTrig => exact commandRow_iff T _ _ rfl
  case cmdClrDone => exact commandRow_iff T _ _ rfl
  case rdStatus => exact topRow_iff T 0x404 _ rfl _ rfl
  case rdNow => exact topRow_iff T 0x408 _ rfl _ rfl
  case rdCapS => exact topRow_iff T 0x40C _ rfl _ rfl
  case rdCapW => exact topRow_iff T 0x410 _ rfl _ rfl
  case rdFreq => exact topRow_iff T 0x414 _ rfl _ rfl
  case wrFreq => exact topRow_iff T 0x514 _ rfl _ rfl

end Sys2Proof
end

