-- ==== Sys2Proof/Laws/State.lean ====
section
/-! SUPPORT. What each named update leaves in each field of the state: one lemma per field per update. -/

namespace Sys2Proof.Machine

variable (s : State)

/-! ### `State.recordFault` -/

@[simp] theorem State.recordFault_c (code : Fault) (source : FaultSource) : (s.recordFault code source).c = s.c := rfl
@[simp] theorem State.recordFault_e (code : Fault) (source : FaultSource) : (s.recordFault code source).e = s.e := rfl
@[simp] theorem State.recordFault_run (code : Fault) (source : FaultSource) : (s.recordFault code source).run = s.run := rfl
@[simp] theorem State.recordFault_ovfEn (code : Fault) (source : FaultSource) : (s.recordFault code source).ovfEn = s.ovfEn := rfl
@[simp] theorem State.recordFault_ovfPend (code : Fault) (source : FaultSource) : (s.recordFault code source).ovfPend = s.ovfPend := rfl
@[simp] theorem State.recordFault_sat (code : Fault) (source : FaultSource) : (s.recordFault code source).sat = s.sat := rfl
@[simp] theorem State.recordFault_capStart (code : Fault) (source : FaultSource) : (s.recordFault code source).capStart = s.capStart := rfl
@[simp] theorem State.recordFault_capWidth (code : Fault) (source : FaultSource) : (s.recordFault code source).capWidth = s.capWidth := rfl
@[simp] theorem State.recordFault_armedEnd (code : Fault) (source : FaultSource) : (s.recordFault code source).armedEnd = s.armedEnd := rfl
@[simp] theorem State.recordFault_done (code : Fault) (source : FaultSource) : (s.recordFault code source).done = s.done := rfl
@[simp] theorem State.recordFault_edgePend (code : Fault) (source : FaultSource) : (s.recordFault code source).edgePend = s.edgePend := rfl
@[simp] theorem State.recordFault_trigOut (code : Fault) (source : FaultSource) : (s.recordFault code source).trigOut = s.trigOut := rfl
@[simp] theorem State.recordFault_freq (code : Fault) (source : FaultSource) : (s.recordFault code source).freq = s.freq := rfl
@[simp] theorem State.recordFault_inService (code : Fault) (source : FaultSource) : (s.recordFault code source).inService = s.inService := rfl
@[simp] theorem State.recordFault_gie (code : Fault) (source : FaultSource) : (s.recordFault code source).gie = s.gie := rfl
@[simp] theorem State.recordFault_faults (code : Fault) (source : FaultSource) : (s.recordFault code source).faults = insertRecord ⟨code, source⟩ s.faults := rfl
@[simp] theorem State.recordFault_refused (code : Fault) (source : FaultSource) : (s.recordFault code source).refused = s.refused := rfl
@[simp] theorem State.recordFault_trace (code : Fault) (source : FaultSource) : (s.recordFault code source).trace = s.trace := rfl
@[simp] theorem State.recordFault_params (code : Fault) (source : FaultSource) : (s.recordFault code source).params = s.params := rfl
@[simp] theorem State.recordFault_program (code : Fault) (source : FaultSource) : (s.recordFault code source).program = s.program := rfl
@[simp] theorem State.recordFault_pc (code : Fault) (source : FaultSource) : (s.recordFault code source).pc = s.pc := rfl
@[simp] theorem State.recordFault_vars (code : Fault) (source : FaultSource) : (s.recordFault code source).vars = s.vars := rfl
@[simp] theorem State.recordFault_varEpoch (code : Fault) (source : FaultSource) : (s.recordFault code source).varEpoch = s.varEpoch := rfl
@[simp] theorem State.recordFault_distance (code : Fault) (source : FaultSource) : (s.recordFault code source).distance = s.distance := rfl
@[simp] theorem State.recordFault_draws (code : Fault) (source : FaultSource) : (s.recordFault code source).draws = s.draws := rfl
@[simp] theorem State.recordFault_schedule (code : Fault) (source : FaultSource) : (s.recordFault code source).schedule = s.schedule := rfl
@[simp] theorem State.recordFault_turn (code : Fault) (source : FaultSource) : (s.recordFault code source).turn = s.turn := rfl

/-! ### `State.emit` -/

@[simp] theorem State.emit_c (ev : Event) : (s.emit ev).c = s.c := rfl
@[simp] theorem State.emit_e (ev : Event) : (s.emit ev).e = s.e := rfl
@[simp] theorem State.emit_run (ev : Event) : (s.emit ev).run = s.run := rfl
@[simp] theorem State.emit_ovfEn (ev : Event) : (s.emit ev).ovfEn = s.ovfEn := rfl
@[simp] theorem State.emit_ovfPend (ev : Event) : (s.emit ev).ovfPend = s.ovfPend := rfl
@[simp] theorem State.emit_sat (ev : Event) : (s.emit ev).sat = s.sat := rfl
@[simp] theorem State.emit_capStart (ev : Event) : (s.emit ev).capStart = s.capStart := rfl
@[simp] theorem State.emit_capWidth (ev : Event) : (s.emit ev).capWidth = s.capWidth := rfl
@[simp] theorem State.emit_armedEnd (ev : Event) : (s.emit ev).armedEnd = s.armedEnd := rfl
@[simp] theorem State.emit_done (ev : Event) : (s.emit ev).done = s.done := rfl
@[simp] theorem State.emit_edgePend (ev : Event) : (s.emit ev).edgePend = s.edgePend := rfl
@[simp] theorem State.emit_trigOut (ev : Event) : (s.emit ev).trigOut = s.trigOut := rfl
@[simp] theorem State.emit_freq (ev : Event) : (s.emit ev).freq = s.freq := rfl
@[simp] theorem State.emit_inService (ev : Event) : (s.emit ev).inService = s.inService := rfl
@[simp] theorem State.emit_gie (ev : Event) : (s.emit ev).gie = s.gie := rfl
@[simp] theorem State.emit_faults (ev : Event) : (s.emit ev).faults = s.faults := rfl
@[simp] theorem State.emit_refused (ev : Event) : (s.emit ev).refused = s.refused := rfl
@[simp] theorem State.emit_trace (ev : Event) : (s.emit ev).trace = s.trace ++ [ev] := rfl
@[simp] theorem State.emit_params (ev : Event) : (s.emit ev).params = s.params := rfl
@[simp] theorem State.emit_program (ev : Event) : (s.emit ev).program = s.program := rfl
@[simp] theorem State.emit_pc (ev : Event) : (s.emit ev).pc = s.pc := rfl
@[simp] theorem State.emit_vars (ev : Event) : (s.emit ev).vars = s.vars := rfl
@[simp] theorem State.emit_varEpoch (ev : Event) : (s.emit ev).varEpoch = s.varEpoch := rfl
@[simp] theorem State.emit_distance (ev : Event) : (s.emit ev).distance = s.distance := rfl
@[simp] theorem State.emit_draws (ev : Event) : (s.emit ev).draws = s.draws := rfl
@[simp] theorem State.emit_schedule (ev : Event) : (s.emit ev).schedule = s.schedule := rfl
@[simp] theorem State.emit_turn (ev : Event) : (s.emit ev).turn = s.turn := rfl

/-! ### `State.advance` -/

@[simp] theorem State.advance_c : s.advance.c = s.c := rfl
@[simp] theorem State.advance_e : s.advance.e = s.e := rfl
@[simp] theorem State.advance_run : s.advance.run = s.run := rfl
@[simp] theorem State.advance_ovfEn : s.advance.ovfEn = s.ovfEn := rfl
@[simp] theorem State.advance_ovfPend : s.advance.ovfPend = s.ovfPend := rfl
@[simp] theorem State.advance_sat : s.advance.sat = s.sat := rfl
@[simp] theorem State.advance_capStart : s.advance.capStart = s.capStart := rfl
@[simp] theorem State.advance_capWidth : s.advance.capWidth = s.capWidth := rfl
@[simp] theorem State.advance_armedEnd : s.advance.armedEnd = s.armedEnd := rfl
@[simp] theorem State.advance_done : s.advance.done = s.done := rfl
@[simp] theorem State.advance_edgePend : s.advance.edgePend = s.edgePend := rfl
@[simp] theorem State.advance_trigOut : s.advance.trigOut = s.trigOut := rfl
@[simp] theorem State.advance_freq : s.advance.freq = s.freq := rfl
@[simp] theorem State.advance_inService : s.advance.inService = s.inService := rfl
@[simp] theorem State.advance_gie : s.advance.gie = s.gie := rfl
@[simp] theorem State.advance_faults : s.advance.faults = s.faults := rfl
@[simp] theorem State.advance_refused : s.advance.refused = s.refused := rfl
@[simp] theorem State.advance_trace : s.advance.trace = s.trace := rfl
@[simp] theorem State.advance_params : s.advance.params = s.params := rfl
@[simp] theorem State.advance_program : s.advance.program = s.program := rfl
@[simp] theorem State.advance_pc : s.advance.pc = s.pc + 1 := rfl
@[simp] theorem State.advance_vars : s.advance.vars = s.vars := rfl
@[simp] theorem State.advance_varEpoch : s.advance.varEpoch = s.varEpoch := rfl
@[simp] theorem State.advance_distance : s.advance.distance = s.distance := rfl
@[simp] theorem State.advance_draws : s.advance.draws = s.draws := rfl
@[simp] theorem State.advance_schedule : s.advance.schedule = s.schedule := rfl
@[simp] theorem State.advance_turn : s.advance.turn = s.turn := rfl

/-! ### `State.deliverResult` -/

@[simp] theorem State.deliverResult_c (v : Word) : (s.deliverResult v).c = s.c := rfl
@[simp] theorem State.deliverResult_e (v : Word) : (s.deliverResult v).e = s.e := rfl
@[simp] theorem State.deliverResult_run (v : Word) : (s.deliverResult v).run = s.run := rfl
@[simp] theorem State.deliverResult_ovfEn (v : Word) : (s.deliverResult v).ovfEn = s.ovfEn := rfl
@[simp] theorem State.deliverResult_ovfPend (v : Word) : (s.deliverResult v).ovfPend = s.ovfPend := rfl
@[simp] theorem State.deliverResult_sat (v : Word) : (s.deliverResult v).sat = s.sat := rfl
@[simp] theorem State.deliverResult_capStart (v : Word) : (s.deliverResult v).capStart = s.capStart := rfl
@[simp] theorem State.deliverResult_capWidth (v : Word) : (s.deliverResult v).capWidth = s.capWidth := rfl
@[simp] theorem State.deliverResult_armedEnd (v : Word) : (s.deliverResult v).armedEnd = s.armedEnd := rfl
@[simp] theorem State.deliverResult_done (v : Word) : (s.deliverResult v).done = s.done := rfl
@[simp] theorem State.deliverResult_edgePend (v : Word) : (s.deliverResult v).edgePend = s.edgePend := rfl
@[simp] theorem State.deliverResult_trigOut (v : Word) : (s.deliverResult v).trigOut = s.trigOut := rfl
@[simp] theorem State.deliverResult_freq (v : Word) : (s.deliverResult v).freq = s.freq := rfl
@[simp] theorem State.deliverResult_inService (v : Word) : (s.deliverResult v).inService = s.inService := rfl
@[simp] theorem State.deliverResult_gie (v : Word) : (s.deliverResult v).gie = s.gie := rfl
@[simp] theorem State.deliverResult_faults (v : Word) : (s.deliverResult v).faults = s.faults := rfl
@[simp] theorem State.deliverResult_refused (v : Word) : (s.deliverResult v).refused = s.refused := rfl
@[simp] theorem State.deliverResult_trace (v : Word) : (s.deliverResult v).trace = s.trace := rfl
@[simp] theorem State.deliverResult_params (v : Word) : (s.deliverResult v).params = s.params := rfl
@[simp] theorem State.deliverResult_program (v : Word) : (s.deliverResult v).program = s.program := rfl
@[simp] theorem State.deliverResult_pc (v : Word) : (s.deliverResult v).pc = s.pc := rfl
@[simp] theorem State.deliverResult_vars (v : Word) : (s.deliverResult v).vars = deliver (stmtDest s.stmt) v s.vars := rfl
@[simp] theorem State.deliverResult_varEpoch (v : Word) : (s.deliverResult v).varEpoch = s.varEpoch := rfl
@[simp] theorem State.deliverResult_distance (v : Word) : (s.deliverResult v).distance = s.distance := rfl
@[simp] theorem State.deliverResult_draws (v : Word) : (s.deliverResult v).draws = s.draws := rfl
@[simp] theorem State.deliverResult_schedule (v : Word) : (s.deliverResult v).schedule = s.schedule := rfl
@[simp] theorem State.deliverResult_turn (v : Word) : (s.deliverResult v).turn = s.turn := rfl

/-! ### `State.completeWrite` -/

@[simp] theorem State.completeWrite_c (i : Instr) : (s.completeWrite i).c = s.c := rfl
@[simp] theorem State.completeWrite_e (i : Instr) : (s.completeWrite i).e = s.e := rfl
@[simp] theorem State.completeWrite_run (i : Instr) : (s.completeWrite i).run = s.run := rfl
@[simp] theorem State.completeWrite_ovfEn (i : Instr) : (s.completeWrite i).ovfEn = s.ovfEn := rfl
@[simp] theorem State.completeWrite_ovfPend (i : Instr) : (s.completeWrite i).ovfPend = s.ovfPend := rfl
@[simp] theorem State.completeWrite_sat (i : Instr) : (s.completeWrite i).sat = s.sat := rfl
@[simp] theorem State.completeWrite_capStart (i : Instr) : (s.completeWrite i).capStart = s.capStart := rfl
@[simp] theorem State.completeWrite_capWidth (i : Instr) : (s.completeWrite i).capWidth = s.capWidth := rfl
@[simp] theorem State.completeWrite_armedEnd (i : Instr) : (s.completeWrite i).armedEnd = s.armedEnd := rfl
@[simp] theorem State.completeWrite_done (i : Instr) : (s.completeWrite i).done = s.done := rfl
@[simp] theorem State.completeWrite_edgePend (i : Instr) : (s.completeWrite i).edgePend = s.edgePend := rfl
@[simp] theorem State.completeWrite_trigOut (i : Instr) : (s.completeWrite i).trigOut = s.trigOut := rfl
@[simp] theorem State.completeWrite_freq (i : Instr) : (s.completeWrite i).freq = s.freq := rfl
@[simp] theorem State.completeWrite_inService (i : Instr) : (s.completeWrite i).inService = s.inService := rfl
@[simp] theorem State.completeWrite_gie (i : Instr) : (s.completeWrite i).gie = s.gie := rfl
@[simp] theorem State.completeWrite_faults (i : Instr) : (s.completeWrite i).faults = s.faults := rfl
@[simp] theorem State.completeWrite_refused (i : Instr) : (s.completeWrite i).refused = s.refused := rfl
@[simp] theorem State.completeWrite_trace (i : Instr) : (s.completeWrite i).trace = s.trace ++ [.bus i none] := rfl
@[simp] theorem State.completeWrite_params (i : Instr) : (s.completeWrite i).params = s.params := rfl
@[simp] theorem State.completeWrite_program (i : Instr) : (s.completeWrite i).program = s.program := rfl
@[simp] theorem State.completeWrite_pc (i : Instr) : (s.completeWrite i).pc = s.pc + 1 := rfl
@[simp] theorem State.completeWrite_vars (i : Instr) : (s.completeWrite i).vars = s.vars := rfl
@[simp] theorem State.completeWrite_varEpoch (i : Instr) : (s.completeWrite i).varEpoch = s.varEpoch := rfl
@[simp] theorem State.completeWrite_distance (i : Instr) : (s.completeWrite i).distance = s.distance := rfl
@[simp] theorem State.completeWrite_draws (i : Instr) : (s.completeWrite i).draws = s.draws := rfl
@[simp] theorem State.completeWrite_schedule (i : Instr) : (s.completeWrite i).schedule = s.schedule := rfl
@[simp] theorem State.completeWrite_turn (i : Instr) : (s.completeWrite i).turn = s.turn := rfl

/-! ### `State.completeRead` -/

@[simp] theorem State.completeRead_c (i : Instr) (v : Word) : (s.completeRead i v).c = s.c := rfl
@[simp] theorem State.completeRead_e (i : Instr) (v : Word) : (s.completeRead i v).e = s.e := rfl
@[simp] theorem State.completeRead_run (i : Instr) (v : Word) : (s.completeRead i v).run = s.run := rfl
@[simp] theorem State.completeRead_ovfEn (i : Instr) (v : Word) : (s.completeRead i v).ovfEn = s.ovfEn := rfl
@[simp] theorem State.completeRead_ovfPend (i : Instr) (v : Word) : (s.completeRead i v).ovfPend = s.ovfPend := rfl
@[simp] theorem State.completeRead_sat (i : Instr) (v : Word) : (s.completeRead i v).sat = s.sat := rfl
@[simp] theorem State.completeRead_capStart (i : Instr) (v : Word) : (s.completeRead i v).capStart = s.capStart := rfl
@[simp] theorem State.completeRead_capWidth (i : Instr) (v : Word) : (s.completeRead i v).capWidth = s.capWidth := rfl
@[simp] theorem State.completeRead_armedEnd (i : Instr) (v : Word) : (s.completeRead i v).armedEnd = s.armedEnd := rfl
@[simp] theorem State.completeRead_done (i : Instr) (v : Word) : (s.completeRead i v).done = s.done := rfl
@[simp] theorem State.completeRead_edgePend (i : Instr) (v : Word) : (s.completeRead i v).edgePend = s.edgePend := rfl
@[simp] theorem State.completeRead_trigOut (i : Instr) (v : Word) : (s.completeRead i v).trigOut = s.trigOut := rfl
@[simp] theorem State.completeRead_freq (i : Instr) (v : Word) : (s.completeRead i v).freq = s.freq := rfl
@[simp] theorem State.completeRead_inService (i : Instr) (v : Word) : (s.completeRead i v).inService = s.inService := rfl
@[simp] theorem State.completeRead_gie (i : Instr) (v : Word) : (s.completeRead i v).gie = s.gie := rfl
@[simp] theorem State.completeRead_faults (i : Instr) (v : Word) : (s.completeRead i v).faults = s.faults := rfl
@[simp] theorem State.completeRead_refused (i : Instr) (v : Word) : (s.completeRead i v).refused = s.refused := rfl
@[simp] theorem State.completeRead_trace (i : Instr) (v : Word) : (s.completeRead i v).trace = s.trace ++ [.bus i (some v)] := rfl
@[simp] theorem State.completeRead_params (i : Instr) (v : Word) : (s.completeRead i v).params = s.params := rfl
@[simp] theorem State.completeRead_program (i : Instr) (v : Word) : (s.completeRead i v).program = s.program := rfl
@[simp] theorem State.completeRead_pc (i : Instr) (v : Word) : (s.completeRead i v).pc = s.pc + 1 := rfl
@[simp] theorem State.completeRead_vars (i : Instr) (v : Word) : (s.completeRead i v).vars = deliver (stmtDest s.stmt) v s.vars := rfl
@[simp] theorem State.completeRead_varEpoch (i : Instr) (v : Word) : (s.completeRead i v).varEpoch = s.varEpoch := rfl
@[simp] theorem State.completeRead_distance (i : Instr) (v : Word) : (s.completeRead i v).distance = s.distance := rfl
@[simp] theorem State.completeRead_draws (i : Instr) (v : Word) : (s.completeRead i v).draws = s.draws := rfl
@[simp] theorem State.completeRead_schedule (i : Instr) (v : Word) : (s.completeRead i v).schedule = s.schedule := rfl
@[simp] theorem State.completeRead_turn (i : Instr) (v : Word) : (s.completeRead i v).turn = s.turn := rfl

/-! ### `State.rejectUnconfigured` -/

@[simp] theorem State.rejectUnconfigured_c (i : Instr) : (s.rejectUnconfigured i).c = s.c := rfl
@[simp] theorem State.rejectUnconfigured_e (i : Instr) : (s.rejectUnconfigured i).e = s.e := rfl
@[simp] theorem State.rejectUnconfigured_run (i : Instr) : (s.rejectUnconfigured i).run = s.run := rfl
@[simp] theorem State.rejectUnconfigured_ovfEn (i : Instr) : (s.rejectUnconfigured i).ovfEn = s.ovfEn := rfl
@[simp] theorem State.rejectUnconfigured_ovfPend (i : Instr) : (s.rejectUnconfigured i).ovfPend = s.ovfPend := rfl
@[simp] theorem State.rejectUnconfigured_sat (i : Instr) : (s.rejectUnconfigured i).sat = s.sat := rfl
@[simp] theorem State.rejectUnconfigured_capStart (i : Instr) : (s.rejectUnconfigured i).capStart = s.capStart := rfl
@[simp] theorem State.rejectUnconfigured_capWidth (i : Instr) : (s.rejectUnconfigured i).capWidth = s.capWidth := rfl
@[simp] theorem State.rejectUnconfigured_armedEnd (i : Instr) : (s.rejectUnconfigured i).armedEnd = s.armedEnd := rfl
@[simp] theorem State.rejectUnconfigured_done (i : Instr) : (s.rejectUnconfigured i).done = s.done := rfl
@[simp] theorem State.rejectUnconfigured_edgePend (i : Instr) : (s.rejectUnconfigured i).edgePend = s.edgePend := rfl
@[simp] theorem State.rejectUnconfigured_trigOut (i : Instr) : (s.rejectUnconfigured i).trigOut = s.trigOut := rfl
@[simp] theorem State.rejectUnconfigured_freq (i : Instr) : (s.rejectUnconfigured i).freq = s.freq := rfl
@[simp] theorem State.rejectUnconfigured_inService (i : Instr) : (s.rejectUnconfigured i).inService = s.inService := rfl
@[simp] theorem State.rejectUnconfigured_gie (i : Instr) : (s.rejectUnconfigured i).gie = s.gie := rfl
@[simp] theorem State.rejectUnconfigured_faults (i : Instr) : (s.rejectUnconfigured i).faults = insertRecord ⟨.startUnconfigured, .bus (encode i)⟩ s.faults := rfl
@[simp] theorem State.rejectUnconfigured_refused (i : Instr) : (s.rejectUnconfigured i).refused = s.refused := rfl
@[simp] theorem State.rejectUnconfigured_trace (i : Instr) : (s.rejectUnconfigured i).trace = s.trace := rfl
@[simp] theorem State.rejectUnconfigured_params (i : Instr) : (s.rejectUnconfigured i).params = s.params := rfl
@[simp] theorem State.rejectUnconfigured_program (i : Instr) : (s.rejectUnconfigured i).program = s.program := rfl
@[simp] theorem State.rejectUnconfigured_pc (i : Instr) : (s.rejectUnconfigured i).pc = s.pc + 1 := rfl
@[simp] theorem State.rejectUnconfigured_vars (i : Instr) : (s.rejectUnconfigured i).vars = s.vars := rfl
@[simp] theorem State.rejectUnconfigured_varEpoch (i : Instr) : (s.rejectUnconfigured i).varEpoch = s.varEpoch := rfl
@[simp] theorem State.rejectUnconfigured_distance (i : Instr) : (s.rejectUnconfigured i).distance = s.distance := rfl
@[simp] theorem State.rejectUnconfigured_draws (i : Instr) : (s.rejectUnconfigured i).draws = s.draws := rfl
@[simp] theorem State.rejectUnconfigured_schedule (i : Instr) : (s.rejectUnconfigured i).schedule = s.schedule := rfl
@[simp] theorem State.rejectUnconfigured_turn (i : Instr) : (s.rejectUnconfigured i).turn = s.turn := rfl

/-! ### `State.stopClock` -/

@[simp] theorem State.stopClock_c : s.stopClock.c = 0 := rfl
@[simp] theorem State.stopClock_e : s.stopClock.e = 0 := rfl
@[simp] theorem State.stopClock_run : s.stopClock.run = false := rfl
@[simp] theorem State.stopClock_ovfEn : s.stopClock.ovfEn = s.ovfEn := rfl
@[simp] theorem State.stopClock_ovfPend : s.stopClock.ovfPend = false := rfl
@[simp] theorem State.stopClock_sat : s.stopClock.sat = s.sat := rfl
@[simp] theorem State.stopClock_capStart : s.stopClock.capStart = s.capStart := rfl
@[simp] theorem State.stopClock_capWidth : s.stopClock.capWidth = s.capWidth := rfl
@[simp] theorem State.stopClock_armedEnd : s.stopClock.armedEnd = s.armedEnd := rfl
@[simp] theorem State.stopClock_done : s.stopClock.done = s.done := rfl
@[simp] theorem State.stopClock_edgePend : s.stopClock.edgePend = s.edgePend := rfl
@[simp] theorem State.stopClock_trigOut : s.stopClock.trigOut = s.trigOut := rfl
@[simp] theorem State.stopClock_freq : s.stopClock.freq = s.freq := rfl
@[simp] theorem State.stopClock_inService : s.stopClock.inService = s.inService := rfl
@[simp] theorem State.stopClock_gie : s.stopClock.gie = s.gie := rfl
@[simp] theorem State.stopClock_faults : s.stopClock.faults = s.faults := rfl
@[simp] theorem State.stopClock_refused : s.stopClock.refused = s.refused := rfl
@[simp] theorem State.stopClock_trace : s.stopClock.trace = s.trace := rfl
@[simp] theorem State.stopClock_params : s.stopClock.params = s.params := rfl
@[simp] theorem State.stopClock_program : s.stopClock.program = s.program := rfl
@[simp] theorem State.stopClock_pc : s.stopClock.pc = s.pc := rfl
@[simp] theorem State.stopClock_vars : s.stopClock.vars = s.vars := rfl
@[simp] theorem State.stopClock_varEpoch : s.stopClock.varEpoch = s.varEpoch := rfl
@[simp] theorem State.stopClock_distance : s.stopClock.distance = s.distance := rfl
@[simp] theorem State.stopClock_draws : s.stopClock.draws = s.draws := rfl
@[simp] theorem State.stopClock_schedule : s.stopClock.schedule = s.schedule := rfl
@[simp] theorem State.stopClock_turn : s.stopClock.turn = s.turn := rfl

/-! ### `State.restartClock` -/

@[simp] theorem State.restartClock_c : s.restartClock.c = 0 := rfl
@[simp] theorem State.restartClock_e : s.restartClock.e = 0 := rfl
@[simp] theorem State.restartClock_run : s.restartClock.run = true := rfl
@[simp] theorem State.restartClock_ovfEn : s.restartClock.ovfEn = s.ovfEn := rfl
@[simp] theorem State.restartClock_ovfPend : s.restartClock.ovfPend = false := rfl
@[simp] theorem State.restartClock_sat : s.restartClock.sat = s.sat := rfl
@[simp] theorem State.restartClock_capStart : s.restartClock.capStart = s.capStart := rfl
@[simp] theorem State.restartClock_capWidth : s.restartClock.capWidth = s.capWidth := rfl
@[simp] theorem State.restartClock_armedEnd : s.restartClock.armedEnd = s.armedEnd := rfl
@[simp] theorem State.restartClock_done : s.restartClock.done = s.done := rfl
@[simp] theorem State.restartClock_edgePend : s.restartClock.edgePend = s.edgePend := rfl
@[simp] theorem State.restartClock_trigOut : s.restartClock.trigOut = s.trigOut := rfl
@[simp] theorem State.restartClock_freq : s.restartClock.freq = s.freq := rfl
@[simp] theorem State.restartClock_inService : s.restartClock.inService = s.inService := rfl
@[simp] theorem State.restartClock_gie : s.restartClock.gie = s.gie := rfl
@[simp] theorem State.restartClock_faults : s.restartClock.faults = s.faults := rfl
@[simp] theorem State.restartClock_refused : s.restartClock.refused = s.refused := rfl
@[simp] theorem State.restartClock_trace : s.restartClock.trace = s.trace := rfl
@[simp] theorem State.restartClock_params : s.restartClock.params = s.params := rfl
@[simp] theorem State.restartClock_program : s.restartClock.program = s.program := rfl
@[simp] theorem State.restartClock_pc : s.restartClock.pc = s.pc := rfl
@[simp] theorem State.restartClock_vars : s.restartClock.vars = s.vars := rfl
@[simp] theorem State.restartClock_varEpoch : s.restartClock.varEpoch = s.varEpoch := rfl
@[simp] theorem State.restartClock_distance : s.restartClock.distance = s.distance := rfl
@[simp] theorem State.restartClock_draws : s.restartClock.draws = s.draws := rfl
@[simp] theorem State.restartClock_schedule : s.restartClock.schedule = s.schedule := rfl
@[simp] theorem State.restartClock_turn : s.restartClock.turn = s.turn := rfl

/-! ### `State.nextDraw` -/

@[simp] theorem State.nextDraw_c : s.nextDraw.c = s.c := rfl
@[simp] theorem State.nextDraw_e : s.nextDraw.e = s.e := rfl
@[simp] theorem State.nextDraw_run : s.nextDraw.run = s.run := rfl
@[simp] theorem State.nextDraw_ovfEn : s.nextDraw.ovfEn = s.ovfEn := rfl
@[simp] theorem State.nextDraw_ovfPend : s.nextDraw.ovfPend = s.ovfPend := rfl
@[simp] theorem State.nextDraw_sat : s.nextDraw.sat = s.sat := rfl
@[simp] theorem State.nextDraw_capStart : s.nextDraw.capStart = s.capStart := rfl
@[simp] theorem State.nextDraw_capWidth : s.nextDraw.capWidth = s.capWidth := rfl
@[simp] theorem State.nextDraw_armedEnd : s.nextDraw.armedEnd = s.armedEnd := rfl
@[simp] theorem State.nextDraw_done : s.nextDraw.done = s.done := rfl
@[simp] theorem State.nextDraw_edgePend : s.nextDraw.edgePend = s.edgePend := rfl
@[simp] theorem State.nextDraw_trigOut : s.nextDraw.trigOut = s.trigOut := rfl
@[simp] theorem State.nextDraw_freq : s.nextDraw.freq = s.freq := rfl
@[simp] theorem State.nextDraw_inService : s.nextDraw.inService = s.inService := rfl
@[simp] theorem State.nextDraw_gie : s.nextDraw.gie = s.gie := rfl
@[simp] theorem State.nextDraw_faults : s.nextDraw.faults = s.faults := rfl
@[simp] theorem State.nextDraw_refused : s.nextDraw.refused = s.refused := rfl
@[simp] theorem State.nextDraw_trace : s.nextDraw.trace = s.trace := rfl
@[simp] theorem State.nextDraw_params : s.nextDraw.params = s.params := rfl
@[simp] theorem State.nextDraw_program : s.nextDraw.program = s.program := rfl
@[simp] theorem State.nextDraw_pc : s.nextDraw.pc = s.pc := rfl
@[simp] theorem State.nextDraw_vars : s.nextDraw.vars = s.vars := rfl
@[simp] theorem State.nextDraw_varEpoch : s.nextDraw.varEpoch = s.varEpoch := rfl
@[simp] theorem State.nextDraw_distance : s.nextDraw.distance = s.distance := rfl
@[simp] theorem State.nextDraw_draws : s.nextDraw.draws = s.draws + 1 := rfl
@[simp] theorem State.nextDraw_schedule : s.nextDraw.schedule = s.schedule := rfl
@[simp] theorem State.nextDraw_turn : s.nextDraw.turn = s.turn := rfl

/-! ### `State.enterService` -/

@[simp] theorem State.enterService_c (svc : Service) : (s.enterService svc).c = s.c := rfl
@[simp] theorem State.enterService_e (svc : Service) : (s.enterService svc).e = s.e := rfl
@[simp] theorem State.enterService_run (svc : Service) : (s.enterService svc).run = s.run := rfl
@[simp] theorem State.enterService_ovfEn (svc : Service) : (s.enterService svc).ovfEn = s.ovfEn := rfl
@[simp] theorem State.enterService_ovfPend (svc : Service) : (s.enterService svc).ovfPend = s.ovfPend := rfl
@[simp] theorem State.enterService_sat (svc : Service) : (s.enterService svc).sat = s.sat := rfl
@[simp] theorem State.enterService_capStart (svc : Service) : (s.enterService svc).capStart = s.capStart := rfl
@[simp] theorem State.enterService_capWidth (svc : Service) : (s.enterService svc).capWidth = s.capWidth := rfl
@[simp] theorem State.enterService_armedEnd (svc : Service) : (s.enterService svc).armedEnd = s.armedEnd := rfl
@[simp] theorem State.enterService_done (svc : Service) : (s.enterService svc).done = s.done := rfl
@[simp] theorem State.enterService_edgePend (svc : Service) : (s.enterService svc).edgePend = s.edgePend := rfl
@[simp] theorem State.enterService_trigOut (svc : Service) : (s.enterService svc).trigOut = s.trigOut := rfl
@[simp] theorem State.enterService_freq (svc : Service) : (s.enterService svc).freq = s.freq := rfl
@[simp] theorem State.enterService_inService (svc : Service) : (s.enterService svc).inService = svc := rfl
@[simp] theorem State.enterService_gie (svc : Service) : (s.enterService svc).gie = s.gie := rfl
@[simp] theorem State.enterService_faults (svc : Service) : (s.enterService svc).faults = s.faults := rfl
@[simp] theorem State.enterService_refused (svc : Service) : (s.enterService svc).refused = s.refused := rfl
@[simp] theorem State.enterService_trace (svc : Service) : (s.enterService svc).trace = s.trace := rfl
@[simp] theorem State.enterService_params (svc : Service) : (s.enterService svc).params = s.params := rfl
@[simp] theorem State.enterService_program (svc : Service) : (s.enterService svc).program = s.program := rfl
@[simp] theorem State.enterService_pc (svc : Service) : (s.enterService svc).pc = s.pc := rfl
@[simp] theorem State.enterService_vars (svc : Service) : (s.enterService svc).vars = s.vars := rfl
@[simp] theorem State.enterService_varEpoch (svc : Service) : (s.enterService svc).varEpoch = s.varEpoch := rfl
@[simp] theorem State.enterService_distance (svc : Service) : (s.enterService svc).distance = s.distance := rfl
@[simp] theorem State.enterService_draws (svc : Service) : (s.enterService svc).draws = s.draws := rfl
@[simp] theorem State.enterService_schedule (svc : Service) : (s.enterService svc).schedule = s.schedule := rfl
@[simp] theorem State.enterService_turn (svc : Service) : (s.enterService svc).turn = s.turn := rfl

/-! ### `State.returnToHost` -/

@[simp] theorem State.returnToHost_c : s.returnToHost.c = s.c := rfl
@[simp] theorem State.returnToHost_e : s.returnToHost.e = s.e := rfl
@[simp] theorem State.returnToHost_run : s.returnToHost.run = s.run := rfl
@[simp] theorem State.returnToHost_ovfEn : s.returnToHost.ovfEn = s.ovfEn := rfl
@[simp] theorem State.returnToHost_ovfPend : s.returnToHost.ovfPend = s.ovfPend := rfl
@[simp] theorem State.returnToHost_sat : s.returnToHost.sat = s.sat := rfl
@[simp] theorem State.returnToHost_capStart : s.returnToHost.capStart = s.capStart := rfl
@[simp] theorem State.returnToHost_capWidth : s.returnToHost.capWidth = s.capWidth := rfl
@[simp] theorem State.returnToHost_armedEnd : s.returnToHost.armedEnd = s.armedEnd := rfl
@[simp] theorem State.returnToHost_done : s.returnToHost.done = s.done := rfl
@[simp] theorem State.returnToHost_edgePend : s.returnToHost.edgePend = s.edgePend := rfl
@[simp] theorem State.returnToHost_trigOut : s.returnToHost.trigOut = s.trigOut := rfl
@[simp] theorem State.returnToHost_freq : s.returnToHost.freq = s.freq := rfl
@[simp] theorem State.returnToHost_inService : s.returnToHost.inService = .none := rfl
@[simp] theorem State.returnToHost_gie : s.returnToHost.gie = s.gie := rfl
@[simp] theorem State.returnToHost_faults : s.returnToHost.faults = s.faults := rfl
@[simp] theorem State.returnToHost_refused : s.returnToHost.refused = s.refused := rfl
@[simp] theorem State.returnToHost_trace : s.returnToHost.trace = s.trace := rfl
@[simp] theorem State.returnToHost_params : s.returnToHost.params = s.params := rfl
@[simp] theorem State.returnToHost_program : s.returnToHost.program = s.program := rfl
@[simp] theorem State.returnToHost_pc : s.returnToHost.pc = s.pc := rfl
@[simp] theorem State.returnToHost_vars : s.returnToHost.vars = s.vars := rfl
@[simp] theorem State.returnToHost_varEpoch : s.returnToHost.varEpoch = s.varEpoch := rfl
@[simp] theorem State.returnToHost_distance : s.returnToHost.distance = s.distance := rfl
@[simp] theorem State.returnToHost_draws : s.returnToHost.draws = s.draws := rfl
@[simp] theorem State.returnToHost_schedule : s.returnToHost.schedule = s.schedule := rfl
@[simp] theorem State.returnToHost_turn : s.returnToHost.turn = s.turn := rfl

/-! ### `State.refuse` -/

@[simp] theorem State.refuse_c : s.refuse.c = s.c := rfl
@[simp] theorem State.refuse_e : s.refuse.e = s.e := rfl
@[simp] theorem State.refuse_run : s.refuse.run = s.run := rfl
@[simp] theorem State.refuse_ovfEn : s.refuse.ovfEn = s.ovfEn := rfl
@[simp] theorem State.refuse_ovfPend : s.refuse.ovfPend = s.ovfPend := rfl
@[simp] theorem State.refuse_sat : s.refuse.sat = s.sat := rfl
@[simp] theorem State.refuse_capStart : s.refuse.capStart = s.capStart := rfl
@[simp] theorem State.refuse_capWidth : s.refuse.capWidth = s.capWidth := rfl
@[simp] theorem State.refuse_armedEnd : s.refuse.armedEnd = s.armedEnd := rfl
@[simp] theorem State.refuse_done : s.refuse.done = s.done := rfl
@[simp] theorem State.refuse_edgePend : s.refuse.edgePend = s.edgePend := rfl
@[simp] theorem State.refuse_trigOut : s.refuse.trigOut = s.trigOut := rfl
@[simp] theorem State.refuse_freq : s.refuse.freq = s.freq := rfl
@[simp] theorem State.refuse_inService : s.refuse.inService = s.inService := rfl
@[simp] theorem State.refuse_gie : s.refuse.gie = s.gie := rfl
@[simp] theorem State.refuse_faults : s.refuse.faults = s.faults := rfl
@[simp] theorem State.refuse_refused : s.refuse.refused = true := rfl
@[simp] theorem State.refuse_trace : s.refuse.trace = s.trace := rfl
@[simp] theorem State.refuse_params : s.refuse.params = s.params := rfl
@[simp] theorem State.refuse_program : s.refuse.program = s.program := rfl
@[simp] theorem State.refuse_pc : s.refuse.pc = s.pc := rfl
@[simp] theorem State.refuse_vars : s.refuse.vars = s.vars := rfl
@[simp] theorem State.refuse_varEpoch : s.refuse.varEpoch = s.varEpoch := rfl
@[simp] theorem State.refuse_distance : s.refuse.distance = s.distance := rfl
@[simp] theorem State.refuse_draws : s.refuse.draws = s.draws := rfl
@[simp] theorem State.refuse_schedule : s.refuse.schedule = s.schedule := rfl
@[simp] theorem State.refuse_turn : s.refuse.turn = s.turn := rfl

/-! ### `State.resetBy` -/

@[simp] theorem State.resetBy_c (kind : ResetKind) : (s.resetBy kind).c = 0 := rfl
@[simp] theorem State.resetBy_e (kind : ResetKind) : (s.resetBy kind).e = 0 := rfl
@[simp] theorem State.resetBy_run (kind : ResetKind) : (s.resetBy kind).run = false := rfl
@[simp] theorem State.resetBy_ovfEn (kind : ResetKind) : (s.resetBy kind).ovfEn = false := rfl
@[simp] theorem State.resetBy_ovfPend (kind : ResetKind) : (s.resetBy kind).ovfPend = false := rfl
@[simp] theorem State.resetBy_sat (kind : ResetKind) : (s.resetBy kind).sat = false := rfl
@[simp] theorem State.resetBy_capStart (kind : ResetKind) : (s.resetBy kind).capStart = 0 := rfl
@[simp] theorem State.resetBy_capWidth (kind : ResetKind) : (s.resetBy kind).capWidth = 0 := rfl
@[simp] theorem State.resetBy_armedEnd (kind : ResetKind) : (s.resetBy kind).armedEnd = false := rfl
@[simp] theorem State.resetBy_done (kind : ResetKind) : (s.resetBy kind).done = false := rfl
@[simp] theorem State.resetBy_edgePend (kind : ResetKind) : (s.resetBy kind).edgePend = false := rfl
@[simp] theorem State.resetBy_trigOut (kind : ResetKind) : (s.resetBy kind).trigOut = false := rfl
@[simp] theorem State.resetBy_freq (kind : ResetKind) : (s.resetBy kind).freq = 0 := rfl
@[simp] theorem State.resetBy_inService (kind : ResetKind) : (s.resetBy kind).inService = .none := rfl
@[simp] theorem State.resetBy_gie (kind : ResetKind) : (s.resetBy kind).gie = false := rfl
@[simp] theorem State.resetBy_faults (kind : ResetKind) : (s.resetBy kind).faults = s.faults := rfl
@[simp] theorem State.resetBy_refused (kind : ResetKind) : (s.resetBy kind).refused = s.refused := rfl
@[simp] theorem State.resetBy_trace (kind : ResetKind) : (s.resetBy kind).trace = s.trace ++ [.reset kind] := rfl
@[simp] theorem State.resetBy_params (kind : ResetKind) : (s.resetBy kind).params = s.params := rfl
@[simp] theorem State.resetBy_program (kind : ResetKind) : (s.resetBy kind).program = s.program := rfl
@[simp] theorem State.resetBy_pc (kind : ResetKind) : (s.resetBy kind).pc = 0 := rfl
@[simp] theorem State.resetBy_vars (kind : ResetKind) : (s.resetBy kind).vars = [] := rfl
@[simp] theorem State.resetBy_varEpoch (kind : ResetKind) : (s.resetBy kind).varEpoch = s.varEpoch + 1 := rfl
@[simp] theorem State.resetBy_distance (kind : ResetKind) : (s.resetBy kind).distance = none := rfl
@[simp] theorem State.resetBy_draws (kind : ResetKind) : (s.resetBy kind).draws = s.draws := rfl
@[simp] theorem State.resetBy_schedule (kind : ResetKind) : (s.resetBy kind).schedule = s.schedule := rfl
@[simp] theorem State.resetBy_turn (kind : ResetKind) : (s.resetBy kind).turn = s.turn := rfl

/-! ### `State.wrap` -/

@[simp] theorem State.wrap_c : s.wrap.c = 0 := rfl
@[simp] theorem State.wrap_e : s.wrap.e = s.e := rfl
@[simp] theorem State.wrap_run : s.wrap.run = s.run := rfl
@[simp] theorem State.wrap_ovfEn : s.wrap.ovfEn = s.ovfEn := rfl
@[simp] theorem State.wrap_ovfPend : s.wrap.ovfPend = true := rfl
@[simp] theorem State.wrap_sat : s.wrap.sat = s.sat := rfl
@[simp] theorem State.wrap_capStart : s.wrap.capStart = s.capStart := rfl
@[simp] theorem State.wrap_capWidth : s.wrap.capWidth = s.capWidth := rfl
@[simp] theorem State.wrap_armedEnd : s.wrap.armedEnd = s.armedEnd := rfl
@[simp] theorem State.wrap_done : s.wrap.done = s.done := rfl
@[simp] theorem State.wrap_edgePend : s.wrap.edgePend = s.edgePend := rfl
@[simp] theorem State.wrap_trigOut : s.wrap.trigOut = s.trigOut := rfl
@[simp] theorem State.wrap_freq : s.wrap.freq = s.freq := rfl
@[simp] theorem State.wrap_inService : s.wrap.inService = s.inService := rfl
@[simp] theorem State.wrap_gie : s.wrap.gie = s.gie := rfl
@[simp] theorem State.wrap_faults : s.wrap.faults = s.faults := rfl
@[simp] theorem State.wrap_refused : s.wrap.refused = s.refused := rfl
@[simp] theorem State.wrap_trace : s.wrap.trace = s.trace := rfl
@[simp] theorem State.wrap_params : s.wrap.params = s.params := rfl
@[simp] theorem State.wrap_program : s.wrap.program = s.program := rfl
@[simp] theorem State.wrap_pc : s.wrap.pc = s.pc := rfl
@[simp] theorem State.wrap_vars : s.wrap.vars = s.vars := rfl
@[simp] theorem State.wrap_varEpoch : s.wrap.varEpoch = s.varEpoch := rfl
@[simp] theorem State.wrap_distance : s.wrap.distance = s.distance := rfl
@[simp] theorem State.wrap_draws : s.wrap.draws = s.draws := rfl
@[simp] theorem State.wrap_schedule : s.wrap.schedule = s.schedule := rfl
@[simp] theorem State.wrap_turn : s.wrap.turn = s.turn := rfl

/-! ### `State.passTurn` -/

@[simp] theorem State.passTurn_c : s.passTurn.c = s.c := rfl
@[simp] theorem State.passTurn_e : s.passTurn.e = s.e := rfl
@[simp] theorem State.passTurn_run : s.passTurn.run = s.run := rfl
@[simp] theorem State.passTurn_ovfEn : s.passTurn.ovfEn = s.ovfEn := rfl
@[simp] theorem State.passTurn_ovfPend : s.passTurn.ovfPend = s.ovfPend := rfl
@[simp] theorem State.passTurn_sat : s.passTurn.sat = s.sat := rfl
@[simp] theorem State.passTurn_capStart : s.passTurn.capStart = s.capStart := rfl
@[simp] theorem State.passTurn_capWidth : s.passTurn.capWidth = s.capWidth := rfl
@[simp] theorem State.passTurn_armedEnd : s.passTurn.armedEnd = s.armedEnd := rfl
@[simp] theorem State.passTurn_done : s.passTurn.done = s.done := rfl
@[simp] theorem State.passTurn_edgePend : s.passTurn.edgePend = s.edgePend := rfl
@[simp] theorem State.passTurn_trigOut : s.passTurn.trigOut = s.trigOut := rfl
@[simp] theorem State.passTurn_freq : s.passTurn.freq = s.freq := rfl
@[simp] theorem State.passTurn_inService : s.passTurn.inService = s.inService := rfl
@[simp] theorem State.passTurn_gie : s.passTurn.gie = s.gie := rfl
@[simp] theorem State.passTurn_faults : s.passTurn.faults = s.faults := rfl
@[simp] theorem State.passTurn_refused : s.passTurn.refused = s.refused := rfl
@[simp] theorem State.passTurn_trace : s.passTurn.trace = s.trace := rfl
@[simp] theorem State.passTurn_params : s.passTurn.params = s.params := rfl
@[simp] theorem State.passTurn_program : s.passTurn.program = s.program := rfl
@[simp] theorem State.passTurn_pc : s.passTurn.pc = s.pc := rfl
@[simp] theorem State.passTurn_vars : s.passTurn.vars = s.vars := rfl
@[simp] theorem State.passTurn_varEpoch : s.passTurn.varEpoch = s.varEpoch := rfl
@[simp] theorem State.passTurn_distance : s.passTurn.distance = s.distance := rfl
@[simp] theorem State.passTurn_draws : s.passTurn.draws = s.draws := rfl
@[simp] theorem State.passTurn_schedule : s.passTurn.schedule = s.schedule.tail := rfl
@[simp] theorem State.passTurn_turn : s.passTurn.turn = s.turn + 1 := rfl

/-! ### `State.withNextStmt` -/

@[simp] theorem State.withNextStmt_c (st : HostStmt) : (s.withNextStmt st).c = s.c := rfl
@[simp] theorem State.withNextStmt_e (st : HostStmt) : (s.withNextStmt st).e = s.e := rfl
@[simp] theorem State.withNextStmt_run (st : HostStmt) : (s.withNextStmt st).run = s.run := rfl
@[simp] theorem State.withNextStmt_ovfEn (st : HostStmt) : (s.withNextStmt st).ovfEn = s.ovfEn := rfl
@[simp] theorem State.withNextStmt_ovfPend (st : HostStmt) : (s.withNextStmt st).ovfPend = s.ovfPend := rfl
@[simp] theorem State.withNextStmt_sat (st : HostStmt) : (s.withNextStmt st).sat = s.sat := rfl
@[simp] theorem State.withNextStmt_capStart (st : HostStmt) : (s.withNextStmt st).capStart = s.capStart := rfl
@[simp] theorem State.withNextStmt_capWidth (st : HostStmt) : (s.withNextStmt st).capWidth = s.capWidth := rfl
@[simp] theorem State.withNextStmt_armedEnd (st : HostStmt) : (s.withNextStmt st).armedEnd = s.armedEnd := rfl
@[simp] theorem State.withNextStmt_done (st : HostStmt) : (s.withNextStmt st).done = s.done := rfl
@[simp] theorem State.withNextStmt_edgePend (st : HostStmt) : (s.withNextStmt st).edgePend = s.edgePend := rfl
@[simp] theorem State.withNextStmt_trigOut (st : HostStmt) : (s.withNextStmt st).trigOut = s.trigOut := rfl
@[simp] theorem State.withNextStmt_freq (st : HostStmt) : (s.withNextStmt st).freq = s.freq := rfl
@[simp] theorem State.withNextStmt_inService (st : HostStmt) : (s.withNextStmt st).inService = s.inService := rfl
@[simp] theorem State.withNextStmt_gie (st : HostStmt) : (s.withNextStmt st).gie = s.gie := rfl
@[simp] theorem State.withNextStmt_faults (st : HostStmt) : (s.withNextStmt st).faults = s.faults := rfl
@[simp] theorem State.withNextStmt_refused (st : HostStmt) : (s.withNextStmt st).refused = s.refused := rfl
@[simp] theorem State.withNextStmt_trace (st : HostStmt) : (s.withNextStmt st).trace = s.trace := rfl
@[simp] theorem State.withNextStmt_params (st : HostStmt) : (s.withNextStmt st).params = s.params := rfl
@[simp] theorem State.withNextStmt_program (st : HostStmt) : (s.withNextStmt st).program = s.program.take s.pc ++ st :: s.program.drop (s.pc + 1) := rfl
@[simp] theorem State.withNextStmt_pc (st : HostStmt) : (s.withNextStmt st).pc = min s.pc s.program.length := rfl
@[simp] theorem State.withNextStmt_vars (st : HostStmt) : (s.withNextStmt st).vars = s.vars := rfl
@[simp] theorem State.withNextStmt_varEpoch (st : HostStmt) : (s.withNextStmt st).varEpoch = s.varEpoch := rfl
@[simp] theorem State.withNextStmt_distance (st : HostStmt) : (s.withNextStmt st).distance = s.distance := rfl
@[simp] theorem State.withNextStmt_draws (st : HostStmt) : (s.withNextStmt st).draws = s.draws := rfl
@[simp] theorem State.withNextStmt_schedule (st : HostStmt) : (s.withNextStmt st).schedule = .host :: s.schedule := rfl
@[simp] theorem State.withNextStmt_turn (st : HostStmt) : (s.withNextStmt st).turn = s.turn := rfl

end Sys2Proof.Machine
end

