-- ==== Sys2Proof/Laws/Ops.lean ====
section
/-! SUPPORT. What the shared operations do: the fault set, the host variables, the host's step, the views. -/

namespace Sys2Proof.Machine

/-! ### The fault set -/

theorem FaultSource.number_lt (x : FaultSource) : x.number < 2 ^ 44 := by
  cases x with
  | bus T => have := T.isLt; simp only [FaultSource.number]; omega
  | tick => simp [FaultSource.number]
  | edgeIn => simp [FaultSource.number]

theorem FaultSource.number_inj {x y : FaultSource} (h : x.number = y.number) : x = y := by
  cases x <;> cases y <;> simp only [FaultSource.number] at h <;> first
    | rfl
    | omega
    | exact congrArg _ (BitVec.eq_of_toNat_eq (by omega))

theorem Fault.number_inj {x y : Fault} (h : x.number = y.number) : x = y := by
  cases x <;> cases y <;> first | rfl | simp [Fault.number] at h

/-- Distinct records have distinct keys. -/
theorem FaultRecord.key_inj {x y : FaultRecord} (h : x.key = y.key) : x = y := by
  obtain ⟨cx, sx⟩ := x
  obtain ⟨cy, sy⟩ := y
  have hx := FaultSource.number_lt sx
  have hy := FaultSource.number_lt sy
  simp only [FaultRecord.key] at h
  have hc : cx.number = cy.number := by omega
  have hs : sx.number = sy.number := by omega
  rw [Fault.number_inj hc, FaultSource.number_inj hs]

/-- The set after `raise` holds the new record and the old ones. -/
theorem mem_insertRecord (q r : FaultRecord) (l : List FaultRecord) : q ∈ insertRecord r l ↔ q = r ∨ q ∈ l := by
  induction l with
  | nil => simp [insertRecord]
  | cons p rest ih =>
    simp only [insertRecord]
    split
    · simp
    · split
      · rename_i h
        have := FaultRecord.key_inj h
        subst this
        simp
      · simp only [List.mem_cons, ih]
        exact or_left_comm

/-- `raise` keeps the set's canonical form. -/
theorem insertRecord_wf (r : FaultRecord) {l : List FaultRecord} (h : FaultsWf l) : FaultsWf (insertRecord r l) := by
  induction l with
  | nil => simp [insertRecord, FaultsWf]
  | cons p rest ih =>
    have hp := List.pairwise_cons.mp h
    simp only [insertRecord]
    split
    · rename_i hlt
      refine List.pairwise_cons.mpr ⟨fun q hq => ?_, h⟩
      rcases List.mem_cons.mp hq with rfl | hq
      · exact hlt
      · exact Nat.lt_trans hlt (hp.1 q hq)
    · split
      · exact h
      · refine List.pairwise_cons.mpr ⟨fun q hq => ?_, ih hp.2⟩
        rcases (mem_insertRecord q r rest).mp hq with rfl | hq
        · omega
        · exact hp.1 q hq

theorem insertRecord_ne_nil (r : FaultRecord) (l : List FaultRecord) : insertRecord r l ≠ [] := by
  intro h
  have := (mem_insertRecord r r l).mpr (.inl rfl)
  simp [h] at this

/-! ### The host variables -/

theorem lookupVar_setVar_self (n : Nat) (v : Word) (l : List (Nat × Word)) : lookupVar n (setVar n v l) = some v := by
  induction l with
  | nil => simp [setVar, lookupVar]
  | cons p rest ih =>
    obtain ⟨m, w⟩ := p
    simp only [setVar]
    split
    · simp [lookupVar]
    · split
      · simp [lookupVar]
      · have : m ≠ n := by omega
        simp [lookupVar, this, ih]

theorem lookupVar_setVar_other {m n : Nat} (h : m ≠ n) (v : Word) (l : List (Nat × Word)) :
    lookupVar m (setVar n v l) = lookupVar m l := by
  induction l with
  | nil => simp [setVar, lookupVar, h.symm]
  | cons p rest ih =>
    obtain ⟨k, w⟩ := p
    simp only [setVar]
    split
    · simp [lookupVar, h.symm]
    · split
      · rename_i hk
        subst hk
        simp [lookupVar, h.symm]
      · simp [lookupVar, ih]

theorem mem_setVar {p : Nat × Word} {n : Nat} {v : Word} {l : List (Nat × Word)} (h : p ∈ setVar n v l) :
    p = (n, v) ∨ p ∈ l := by
  induction l with
  | nil => simpa [setVar] using h
  | cons q rest ih =>
    obtain ⟨m, w⟩ := q
    simp only [setVar] at h
    split at h
    · simpa using h
    · split at h
      · rcases List.mem_cons.mp h with h | h
        · exact .inl h
        · exact .inr (List.mem_cons_of_mem _ h)
      · rcases List.mem_cons.mp h with h | h
        · exact .inr (by simp [h])
        · exact (ih h).imp_right (List.mem_cons_of_mem _)

/-- Writing a host variable keeps the list's canonical form. -/
theorem setVar_wf (n : Nat) (v : Word) {l : List (Nat × Word)} (h : VarsWf l) : VarsWf (setVar n v l) := by
  induction l with
  | nil => simp [setVar, VarsWf]
  | cons q rest ih =>
    obtain ⟨m, w⟩ := q
    have hq := List.pairwise_cons.mp h
    simp only [setVar]
    split
    · rename_i hlt
      refine List.pairwise_cons.mpr ⟨fun p hp => ?_, h⟩
      rcases List.mem_cons.mp hp with rfl | hp
      · exact hlt
      · exact Nat.lt_trans hlt (hq.1 p hp)
    · split
      · rename_i heq
        subst heq
        exact List.pairwise_cons.mpr ⟨hq.1, hq.2⟩
      · refine List.pairwise_cons.mpr ⟨fun p hp => ?_, ih hq.2⟩
        rcases mem_setVar hp with rfl | hp
        · simp only; omega
        · exact hq.1 p hp

theorem deliver_wf (dst : Option Nat) (v : Word) {l : List (Nat × Word)} (h : VarsWf l) : VarsWf (deliver dst v l) := by
  cases dst with
  | none => exact h
  | some n => exact setVar_wf n v h

/-! ### The host's step -/

@[simp] theorem hostStep_of_none {s : State} (t : State) (h : s.inService = .none) : hostStep s t = .next t := by
  simp [hostStep, h]

@[simp] theorem hostStep_of_ne {s : State} (t : State) (h : s.inService ≠ .none) : hostStep s t = .next s := by
  simp [hostStep, h]

/-! ### The views -/

/-- Taking a turn off the schedule leaves the host's statement. -/
@[simp] theorem State.passTurn_stmt (s : State) : s.passTurn.stmt = s.stmt := rfl

/-- `clock.now()` in exact arithmetic (40_clock.md R104). -/
theorem State.now_toNat (s : State) : s.now.toNat = (s.e.toNat + s.c.toNat) % 2 ^ 32 := by
  have := s.c.isLt
  simp only [State.now, BitVec.toNat_add, BitVec.truncate_eq_setWidth, BitVec.toNat_setWidth]
  omega

/-- `STATUS` as a sum of its bits (10_state.md R40). -/
theorem State.status_eq (s : State) :
    s.status = BitVec.ofNat 32
      (s.run.toNat + 2 * s.ovfEn.toNat + 4 * s.ovfPend.toNat + 8 * s.edgePend.toNat +
        16 * s.armedEnd.toNat + 32 * s.done.toNat + 64 * s.sat.toNat) := by
  simp only [State.status]
  cases s.run <;> cases s.ovfEn <;> cases s.ovfPend <;> cases s.edgePend <;> cases s.armedEnd <;>
    cases s.done <;> cases s.sat <;> rfl

end Sys2Proof.Machine
end

