-- ==== Sys2Proof/Laws/PerInstr.lean ====
section
/-! SUPPORT. What holds of the encoding of each instruction: a legal word transfer of its own row. -/

namespace Sys2Proof.Laws.LegalTransfer

/-- 20_memory.md R51 to R53, 30_encoding.md R74: the encoding of the instruction is a 4-byte transfer at a mapped
offset, a write or a read as the instruction is, and selects the instruction's row. -/
def Statement (i : Instr) : Prop :=
  i.wf = true ∧ Transaction.size (encode i) = 0b10 ∧ mapped (Transaction.off (encode i)) = true ∧
    Transaction.isWrite (encode i) = !i.isRead ∧ i.selectedBy (encode i) = true

theorem cmdCfg : Statement .cmdCfg := by unfold Statement; decide
theorem cmdStart : Statement .cmdStart := by unfold Statement; decide
theorem cmdStop : Statement .cmdStop := by unfold Statement; decide
theorem cmdTrig : Statement .cmdTrig := by unfold Statement; decide
theorem cmdClrDone : Statement .cmdClrDone := by unfold Statement; decide
theorem rdStatus : Statement .rdStatus := by unfold Statement; decide
theorem rdNow : Statement .rdNow := by unfold Statement; decide
theorem rdCapS : Statement .rdCapS := by unfold Statement; decide
theorem rdCapW : Statement .rdCapW := by unfold Statement; decide
theorem rdFreq : Statement .rdFreq := by unfold Statement; decide

theorem wrFreq (f : Word) : Statement (.wrFreq f) := by
  have hw : encode (.wrFreq f) = pack 0b10 1 0x14 f := rfl
  have hsel : encode (.wrFreq f) &&& (Instr.wrFreq f).row.2 = (Instr.wrFreq f).row.1 := by
    rw [row_iff, hw, pack_toNat]
    have := f.isLt
    have h1 : (0b10 : BitVec 2).toNat = 2 := rfl
    have h2 : (1 : BitVec 1).toNat = 1 := rfl
    have h3 : (0x14 : BitVec 8).toNat = 20 := rfl
    rw [h1, h2, h3]
    omega
  refine ⟨rfl, ?_, ?_, ?_, ?_⟩
  · rw [hw, pack_size]
  · rw [hw, pack_off]; rfl
  · rw [hw]; exact (pack_isWrite ..).mpr rfl
  · simp only [Instr.selectedBy, beq_iff_eq]; exact hsel

end Sys2Proof.Laws.LegalTransfer
end

