-- ==== Sys2Proof/Laws/Turns.lean ====
section
/-! SUPPORT. What one step can do, said once: every turn answers a next state (`takeTurn_eq`), and that state is one of
the cases of `TurnCase` (`turnCase`). -/

namespace Sys2Proof.Machine

/-- What an instruction leaves when the host may step. -/
def execEffect : Instr → State → State
  | .cmdCfg, s => ({ s with ovfEn := true } : State).completeWrite .cmdCfg
  | .cmdStart, s =>
    if s.ovfEn then ({ s with run := true } : State).completeWrite .cmdStart else s.rejectUnconfigured .cmdStart
  | .cmdStop, s => s.stopClock.completeWrite .cmdStop
  | .cmdTrig, s =>
    if s.ovfEn then
      ({ (s.emit .trigPulse).restartClock with trigOut := false, armedEnd := false } : State).completeWrite .cmdTrig
    else s.rejectUnconfigured .cmdTrig
  | .cmdClrDone, s => ({ s with done := false } : State).completeWrite .cmdClrDone
  | .rdStatus, s => s.completeRead .rdStatus s.status
  | .rdNow, s => s.completeRead .rdNow s.now
  | .rdCapS, s => s.completeRead .rdCapS s.capStart
  | .rdCapW, s =>
    if s.done then s.completeRead .rdCapW s.capWidth
    else s.nextDraw.completeRead .rdCapW (Config.freeWord s.draws)
  | .rdFreq, s => s.completeRead .rdFreq s.freq
  | .wrFreq f, s => ({ s with freq := f } : State).completeWrite (.wrFreq f)

/-- Every instruction is a step of the host with its effect (40_clock.md R100). -/
theorem exec_eq (i : Instr) (s : State) : exec i s = hostStep s (execEffect i s) := by
  cases i <;> rfl

/-- What the host's statement leaves when the host may step. -/
def hostEffect (s : State) : State :=
  match s.stmt with
  | none => s
  | some (.bus T _) =>
    match decode T with
    | .ok i => execEffect i s
    | .error r => (s.recordFault (rejectFault r) (.bus T)).advance
  | some .ei => enableInterrupts s
  | some .di => disableInterrupts s
  | some (.bz h b label) => branchZero h b label s
  | some (.distance src) => convertDistance src s
  | some .other => s.refuse

theorem hostTurn_eq (s : State) : hostTurn s = hostStep s (hostEffect s) := by
  unfold hostTurn hostEffect
  cases s.stmt with
  | none => simp [hostStep]
  | some st =>
    cases st with
    | bus T dst =>
      simp only [issue]
      cases decode T <;> simp [exec_eq]
    | _ => rfl

/-- What an agent's turn leaves. -/
def turnEffect (a : AgentStep) (s : State) : State :=
  if enabled a s then
    match a with
    | .host => hostEffect s
    | .tick => tick s
    | .edgeIn => edgeIn s
    | .dispatchOvf => dispatchOvf s
    | .bodyOvf => bodyOvf s
    | .dispatchEdge => dispatchEdge s
    | .bodyEdge => bodyEdge s
    | .por => por s
    | .wdtReset => wdtReset s
  else s

/-- Every turn answers a next state. -/
theorem takeTurn_eq (a : AgentStep) (s : State) : takeTurn a s = .next (turnEffect a s) := by
  simp only [takeTurn, turnEffect]
  split
  · rename_i h
    cases a with
    | host =>
      simp only [enabled, Bool.and_eq_true, decide_eq_true_eq] at h
      simp [perform, hostTurn_eq, h.1]
    | _ => rfl
  · rfl

/-- A step is refused in a marked state and otherwise is its agent's turn. -/
theorem step_eq (s : State) :
    step s = if s.refused then .refused .refusalMarkSet else .next (turnEffect s.nextAgent s.passTurn) := by
  simp [step, nextStep, turnStep, takeTurn_eq]

theorem step_next {s t : State} (h : step s = .next t) :
    s.refused = false ∧ t = turnEffect s.nextAgent s.passTurn := by
  rw [step_eq] at h
  split at h
  · cases h
  · cases h
    simp_all

theorem step_of_schedule {s : State} {a : AgentStep} {rest : List AgentStep} (hr : s.refused = false)
    (hs : s.schedule = a :: rest) :
    step s = .next (turnEffect a { s with schedule := rest, turn := s.turn + 1 }) := by
  simp [step_eq, hr, State.nextAgent, hs, State.passTurn]

/-- A host turn at a word that decodes is the instruction's meaning. -/
theorem turnEffect_host {s : State} {T : Transaction} {dst : Option Nat} {i : Instr} (hst : s.stmt = some (.bus T dst))
    (hd : decode T = .ok i) : Host.Outcome.next (turnEffect .host s) = exec i s := by
  rw [exec_eq]
  by_cases hn : s.inService = .none
  · rw [hostStep_of_none _ hn]
    simp [turnEffect, enabled, hn, hst, hostEffect, hd]
  · rw [hostStep_of_ne _ hn]
    simp [turnEffect, enabled, hn]

/-- All that one turn of an agent can do to a state, with the condition of each case. -/
inductive TurnCase (s : State) : AgentStep → State → Prop where
  | idle (a) : enabled a s = false → TurnCase s a s
  | illegal (T dst r) : s.inService = .none → s.stmt = some (.bus T dst) → decode T = .error r →
      TurnCase s .host { s with faults := insertRecord ⟨rejectFault r, .bus T⟩ s.faults, pc := s.pc + 1 }
  | cmdCfg (T dst) : s.inService = .none → s.stmt = some (.bus T dst) → decode T = .ok .cmdCfg →
      TurnCase s .host { s with ovfEn := true, trace := s.trace ++ [.bus .cmdCfg none], pc := s.pc + 1 }
  | cmdStart (T dst) : s.inService = .none → s.stmt = some (.bus T dst) → decode T = .ok .cmdStart → s.ovfEn = true →
      TurnCase s .host { s with run := true, trace := s.trace ++ [.bus .cmdStart none], pc := s.pc + 1 }
  | unconfigured (T dst i) : s.inService = .none → s.stmt = some (.bus T dst) → decode T = .ok i →
      i = .cmdStart ∨ i = .cmdTrig → s.ovfEn = false →
      TurnCase s .host
        { s with faults := insertRecord ⟨.startUnconfigured, .bus (encode i)⟩ s.faults, pc := s.pc + 1 }
  | cmdStop (T dst) : s.inService = .none → s.stmt = some (.bus T dst) → decode T = .ok .cmdStop →
      TurnCase s .host
        { s with
          run := false, c := 0, e := 0, ovfPend := false
          trace := s.trace ++ [.bus .cmdStop none], pc := s.pc + 1 }
  | cmdTrig (T dst) : s.inService = .none → s.stmt = some (.bus T dst) → decode T = .ok .cmdTrig → s.ovfEn = true →
      TurnCase s .host
        { s with
          run := true, c := 0, e := 0, ovfPend := false, trigOut := false, armedEnd := false
          trace := s.trace ++ [.trigPulse] ++ [.bus .cmdTrig none], pc := s.pc + 1 }
  | cmdClrDone (T dst) : s.inService = .none → s.stmt = some (.bus T dst) → decode T = .ok .cmdClrDone →
      TurnCase s .host { s with done := false, trace := s.trace ++ [.bus .cmdClrDone none], pc := s.pc + 1 }
  | wrFreq (T dst f) : s.inService = .none → s.stmt = some (.bus T dst) → decode T = .ok (.wrFreq f) →
      TurnCase s .host { s with freq := f, trace := s.trace ++ [.bus (.wrFreq f) none], pc := s.pc + 1 }
  | read (T dst i v d) : s.inService = .none → s.stmt = some (.bus T dst) → decode T = .ok i → i.isRead = true →
      TurnCase s .host
        { s with vars := deliver dst v s.vars, draws := d, trace := s.trace ++ [.bus i (some v)], pc := s.pc + 1 }
  | ei : s.inService = .none → s.stmt = some .ei → TurnCase s .host { s with gie := true, pc := s.pc + 1 }
  | di : s.inService = .none → s.stmt = some .di → TurnCase s .host { s with gie := false, pc := s.pc + 1 }
  | bz (h b label p) : s.inService = .none → s.stmt = some (.bz h b label) → TurnCase s .host { s with pc := p }
  | distance (src d) : s.inService = .none → s.stmt = some (.distance src) →
      TurnCase s .host { s with distance := d, pc := s.pc + 1 }
  | unlisted : s.inService = .none → s.stmt = some .other → TurnCase s .host { s with refused := true }
  | count : s.run = true → s.c.toNat < s.params.maxCount → TurnCase s .tick { s with c := s.c + 1 }
  | wrap : s.run = true → s.params.maxCount ≤ s.c.toNat → s.ovfPend = false ∨ s.inService = .halt →
      TurnCase s .tick { s with c := 0, ovfPend := true }
  | wrapLost : s.run = true → s.params.maxCount ≤ s.c.toNat → s.ovfPend = true → s.inService ≠ .halt →
      TurnCase s .tick { s with c := 0, ovfPend := true, faults := insertRecord ⟨.ovfLost, .tick⟩ s.faults }
  | edge : s.edgePend = false ∨ s.inService = .halt → TurnCase s .edgeIn { s with edgePend := true }
  | edgeLost : s.edgePend = true → s.inService ≠ .halt →
      TurnCase s .edgeIn { s with edgePend := true, faults := insertRecord ⟨.edgeLost, .edgeIn⟩ s.faults }
  | dispatchOvf : s.gie = true → s.inService = .none → s.ovfPend = true → s.ovfEn = true →
      TurnCase s .dispatchOvf { s with ovfPend := false, inService := .ovf }
  | addQuantum : s.inService = .ovf → s.e.toNat < s.params.satLimit →
      TurnCase s .bodyOvf { s with e := s.e + BitVec.ofNat 32 s.params.quantum, inService := .none }
  | saturate : s.inService = .ovf → s.params.satLimit ≤ s.e.toNat → s.params.satAction = .watchdogHalt →
      TurnCase s .bodyOvf { s with sat := true, trace := s.trace ++ [.satReq], inService := .halt }
  | badAction : s.inService = .ovf → s.params.satLimit ≤ s.e.toNat → s.params.satAction = .other →
      TurnCase s .bodyOvf { s with refused := true }
  | dispatchEdge : s.gie = true → s.inService = .none → s.ovfPend = false ∨ s.ovfEn = false → s.edgePend = true →
      TurnCase s .dispatchEdge { s with edgePend := false, inService := .edge }
  | startEdge : s.inService = .edge → s.armedEnd = false →
      TurnCase s .bodyEdge { s with capStart := s.now, armedEnd := true, inService := .none }
  | endEdge : s.inService = .edge → s.armedEnd = true →
      TurnCase s .bodyEdge
        { s with
          capWidth := s.now - s.capStart, done := true, run := false, c := 0, e := 0, ovfPend := false
          inService := .none }
  | por : TurnCase s .por (s.resetBy .por)
  | wdt : s.inService = .halt → TurnCase s .wdtReset (s.resetBy .wdt)

theorem turnCase_exec {s : State} {T : Transaction} {dst : Option Nat} {i : Instr} (hn : s.inService = .none)
    (hs : s.stmt = some (.bus T dst)) (hd : decode T = .ok i) : TurnCase s .host (execEffect i s) := by
  have hread : ∀ (j : Instr) (v : Word), decode T = .ok j → j.isRead = true →
      TurnCase s .host (s.completeRead j v) := fun j v hj hr => by
    simpa [State.completeRead, State.deliverResult, State.emit, State.advance, hs, stmtDest] using
      TurnCase.read T dst j v s.draws hn hs hj hr
  cases i with
  | cmdCfg => exact .cmdCfg T dst hn hs hd
  | cmdStart =>
    simp only [execEffect]
    split
    · rename_i h; exact .cmdStart T dst hn hs hd h
    · rename_i h; exact .unconfigured T dst _ hn hs hd (.inl rfl) (by simpa using h)
  | cmdStop => exact .cmdStop T dst hn hs hd
  | cmdTrig =>
    simp only [execEffect]
    split
    · rename_i h; exact .cmdTrig T dst hn hs hd h
    · rename_i h; exact .unconfigured T dst _ hn hs hd (.inr rfl) (by simpa using h)
  | cmdClrDone => exact .cmdClrDone T dst hn hs hd
  | rdStatus => exact hread _ _ hd rfl
  | rdNow => exact hread _ _ hd rfl
  | rdCapS => exact hread _ _ hd rfl
  | rdCapW =>
    simp only [execEffect]
    split
    · exact hread _ s.capWidth hd rfl
    · simpa [State.nextDraw, State.completeRead, State.deliverResult, State.emit, State.advance,
        State.stmt, show s.program[s.pc]? = _ from hs, stmtDest] using
        TurnCase.read T dst .rdCapW (Config.freeWord s.draws) (s.draws + 1) hn hs hd rfl
  | rdFreq => exact hread _ _ hd rfl
  | wrFreq f => exact .wrFreq T dst f hn hs hd

theorem turnCase_host {s : State} (hn : s.inService = .none) (hs : s.stmt.isSome = true) :
    TurnCase s .host (hostEffect s) := by
  simp only [hostEffect]
  split
  · rename_i h; simp [h] at hs
  · rename_i T dst h
    split
    · rename_i i hd; exact turnCase_exec hn h hd
    · rename_i r hd; exact .illegal T dst r hn h hd
  · exact .ei hn ‹_›
  · exact .di hn ‹_›
  · rename_i h b label hs
    simp only [branchZero]
    split
    · exact .bz h b label _ hn hs
    · exact .bz h b label _ hn hs
  · exact .distance _ _ hn ‹_›
  · exact .unlisted hn ‹_›

/-- What one turn can do. -/
theorem turnCase (a : AgentStep) (s : State) : TurnCase s a (turnEffect a s) := by
  simp only [turnEffect]
  split
  · rename_i h
    cases a with
    | host =>
      simp only [enabled, Bool.and_eq_true, decide_eq_true_eq] at h
      exact turnCase_host h.1 h.2
    | tick =>
      simp only [tick, State.atTop, decide_eq_true_eq]
      split
      · rename_i ht
        split
        · rename_i hp; exact .wrapLost h ht hp.1 hp.2
        · rename_i hp
          refine .wrap h ht ?_
          cases hq : s.ovfPend <;> simp_all
      · rename_i ht; exact .count h (by omega)
    | edgeIn =>
      simp only [edgeIn]
      split
      · rename_i hp; exact .edgeLost hp.1 hp.2
      · rename_i hp
        refine .edge ?_
        cases hq : s.edgePend <;> simp_all
    | dispatchOvf =>
      simp only [enabled, State.mayDispatch, State.irqOvf, Bool.and_eq_true, decide_eq_true_eq] at h
      exact .dispatchOvf h.1.1 h.1.2 h.2.1 h.2.2
    | bodyOvf =>
      simp only [enabled, decide_eq_true_eq] at h
      simp only [bodyOvf, Machine.saturate]
      split
      · rename_i hl
        split
        · exact .saturate h hl ‹_›
        · exact .badAction h hl ‹_›
      · exact .addQuantum h (by omega)
    | dispatchEdge =>
      simp only [enabled, State.mayDispatch, State.irqOvf, State.irqEdge, Bool.and_eq_true, decide_eq_true_eq,
        Bool.not_eq_true', Bool.and_eq_false_iff] at h
      exact .dispatchEdge h.1.1.1 h.1.1.2 h.1.2 h.2
    | bodyEdge =>
      simp only [enabled, decide_eq_true_eq] at h
      simp only [bodyEdge]
      split
      · exact .endEdge h ‹_›
      · rename_i ha; exact .startEdge h (by simpa using ha)
    | por => exact .por
    | wdtReset => exact .wdt (by simpa [enabled] using h)
  · rename_i h; exact .idle a (by simpa using h)

/-- What one step can do. -/
theorem step_turnCase {s t : State} (h : step s = .next t) : TurnCase s.passTurn s.nextAgent t := by
  rw [(step_next h).2]
  exact turnCase _ _

/-- What one step can do, its agent named, for a case analysis. -/
theorem step_agentCase {s t : State} (h : step s = .next t) : ∃ a, s.nextAgent = a ∧ TurnCase s.passTurn a t :=
  ⟨_, rfl, step_turnCase h⟩

end Sys2Proof.Machine
end

