-- ==== Sys2Proof/Laws/Runs.lean ====
section
/-! SUPPORT. Runs of several steps, and the arithmetic of legal parameters. -/

namespace Sys2Proof.Machine

/-- A run of `m + n` steps is one of `m`, then one of `n`. -/
theorem runSteps_add (m n : Nat) (s : State) :
    runSteps (m + n) s =
      match runSteps m s with
      | .next t => runSteps n t
      | .fault f => .fault f
      | .refused r => .refused r := by
  induction m generalizing s with
  | zero => simp [runSteps]
  | succ m ih =>
    rw [Nat.add_right_comm, runSteps]
    conv_rhs => rw [runSteps]
    cases step s with
    | next t => exact ih t
    | fault => rfl
    | refused => rfl

theorem runSteps_add_of_next {m : Nat} {s t : State} (h : runSteps m s = .next t) (n : Nat) :
    runSteps (m + n) s = runSteps n t := by
  rw [runSteps_add, h]

theorem runSteps_one (s : State) : runSteps 1 s = step s := by
  simp only [runSteps]
  cases step s <;> rfl

theorem runSteps_succ_of_next {n : Nat} {s t : State} (h : step s = .next t) :
    runSteps (n + 1) s = runSteps n t := by
  rw [runSteps, h]

/-- A run that can end has ended. -/
theorem runToEnd_of_ended {s : State} (n : Nat) (h : runEnded s = true) : runToEnd n s = some s := by
  cases n <;> simp [runToEnd, h]

/-- A run that has not ended goes on by one step. -/
theorem runToEnd_succ_of_next {n : Nat} {s t : State} (h : runEnded s = false) (hs : step s = .next t) :
    runToEnd (n + 1) s = runToEnd n t := by
  simp [runToEnd, h, hs]

/-- A dispatch is enabled exactly when the gate is open, no service is in progress and a request of 60_exceptions.md R203
is asserted (R205). -/
theorem anyEnabled_dispatchSteps (s : State) :
    anyEnabled dispatchSteps s = (s.mayDispatch && (s.irqOvf || s.irqEdge)) := by
  simp only [anyEnabled, dispatchSteps, List.any_cons, List.any_nil, enabled]
  cases s.mayDispatch <;> cases s.irqOvf <;> cases s.irqEdge <;> rfl

/-- What legal parameters are (00_scope.md R7, R9). -/
theorem params_bounds {p : Params} (h : p.wf = true) :
    256 ≤ 2 ^ p.wHw ∧ 2 ^ p.wHw ≤ 65536 ∧ p.maxCount + 1 = 2 ^ p.wHw ∧
      (p.quantum = 2 ^ p.wHw - 1 ∨ p.quantum = 2 ^ p.wHw) := by
  simp only [Params.wf, Params.widthLegal, Params.quantumLegal, Bool.and_eq_true, Bool.or_eq_true,
    decide_eq_true_eq] at h
  have h1 : 2 ^ 8 ≤ 2 ^ p.wHw := Nat.pow_le_pow_right (by omega) h.1.1
  have h2 : 2 ^ p.wHw ≤ 2 ^ 16 := Nat.pow_le_pow_right (by omega) h.1.2
  simp only [Params.maxCount]
  omega

/-- Below `SAT_LIMIT` a quantum is added without a wrap (60_exceptions.md R207). -/
theorem addQuantum_toNat {s : State} (hw : s.params.wf = true) (hl : s.e.toNat < s.params.satLimit) :
    (s.e + BitVec.ofNat 32 s.params.quantum).toNat = s.e.toNat + s.params.quantum := by
  have := params_bounds hw
  simp only [Params.satLimit, maxWord] at hl
  rw [BitVec.toNat_add, BitVec.toNat_ofNat]
  omega

end Sys2Proof.Machine
end

