-- ==== Sys2Proof/Tests/Slice0.lean ====
section
/-! SUPPORT. Tests. Expected values are those of 95_test_vectors.md or of the rule cited, never the model's own answer.
The second half holds, for each statement with hypotheses, a witness that meets them. -/

namespace Sys2Proof.Tests

open Sys2Proof.Machine

/-- The next state of an outcome. -/
def nextOf : Host.Outcome State Fault Refusal → Option State
  | .next t => some t
  | .fault _ => none
  | .refused _ => none

/-- After a host transaction. -/
def did (i : Instr) (s : State) : Option State := nextOf (exec i s)

/-- After an agent's turn. -/
def took (a : AgentStep) (s : State) : Option State := nextOf (takeTurn a s)

/-- The result that the last event of the trace carries. -/
def lastResult (s : State) : Option Word :=
  match s.trace.getLast? with
  | some (.bus _ r) => r
  | _ => none

/-- The launch state, configured and with the gate open. -/
def ready : State := { State.reset with ovfEn := true, gie := true }

/-- The launch state with one host statement. -/
def withStmt (st : HostStmt) (s : State) : State := { s with program := [st], pc := 0 }

/-! ### Well-formedness: one ill-formed term per check -/

theorem test_wf_params : Params.wf ⟨8, 255, .watchdogHalt⟩ = true ∧ Params.wf ⟨16, 65536, .watchdogHalt⟩ = true := by
  decide

theorem test_wf_width_low : Params.widthLegal ⟨7, 127, .watchdogHalt⟩ = false := by decide

theorem test_wf_width_high : Params.widthLegal ⟨17, 131071, .watchdogHalt⟩ = false := by decide

theorem test_wf_quantum : Params.quantumLegal ⟨8, 254, .watchdogHalt⟩ = false := by decide

theorem test_wf_illegal_word : HostStmt.wf 1 (.bus 0x50000000006 none) = false := by decide

theorem test_wf_read_without_variable : HostStmt.wf 1 (.bus 0x40800000000 none) = false := by decide

theorem test_wf_write_with_variable : HostStmt.wf 1 (.bus 0x50000000001 (some 0)) = false := by decide

theorem test_wf_branch_bit : HostStmt.wf 1 (.bz 0 32 0) = false := by decide

theorem test_wf_branch_label : HostStmt.wf 1 (.bz 0 31 2) = false ∧ HostStmt.wf 1 (.bz 0 31 1) = true := by decide

theorem test_wf_unlisted : HostStmt.wf 1 .other = false := by decide

theorem test_wf_program : programWf (readSyncDistance 0 0 1) = true := by decide

/-! ### Decoding (95_test_vectors.md 2.1), each word written out as SIZE, DIR, OFF, DATA -/

theorem test_decode_cmd_cfg :
    decode 0b10_1_00000000_00000000000000000000000000000001#43 = .ok .cmdCfg := by decide

theorem test_decode_cmd_start :
    decode 0b10_1_00000000_00000000000000000000000000000010#43 = .ok .cmdStart := by decide

theorem test_decode_cmd_stop :
    decode 0b10_1_00000000_00000000000000000000000000000011#43 = .ok .cmdStop := by decide

theorem test_decode_cmd_trig :
    decode 0b10_1_00000000_00000000000000000000000000000100#43 = .ok .cmdTrig := by decide

theorem test_decode_cmd_clrdone :
    decode 0b10_1_00000000_00000000000000000000000000000101#43 = .ok .cmdClrDone := by decide

theorem test_decode_rd_status :
    decode 0b10_0_00000100_00000000000000000000000000000000#43 = .ok .rdStatus := by decide

theorem test_decode_rd_now :
    decode 0b10_0_00001000_00000000000000000000000000000000#43 = .ok .rdNow ∧
      decode 0x408DEADBEEF = .ok .rdNow := by decide

theorem test_decode_rd_caps :
    decode 0b10_0_00001100_00000000000000000000000000000000#43 = .ok .rdCapS := by decide

theorem test_decode_rd_capw :
    decode 0b10_0_00010000_00000000000000000000000000000000#43 = .ok .rdCapW := by decide

theorem test_decode_rd_freq :
    decode 0b10_0_00010100_00000000000000000000000000000000#43 = .ok .rdFreq := by decide

theorem test_decode_wr_freq :
    decode 0b10_1_00010100_00000000111101000010010000000000#43 = .ok (.wrFreq 16000000) ∧
      decode 0x514FFFFFFFF = .ok (.wrFreq 4294967295) := by decide

theorem test_decode_size :
    decode 0x00800000000 = .error .busSize ∧ decode 0x20800000000 = .error .busSize ∧
      decode 0x60800000000 = .error .busSize ∧ decode 0x10100000000 = .error .busSize := by decide

theorem test_decode_align :
    decode 0x40900000000 = .error .busAlign ∧ decode 0x40A00000000 = .error .busAlign ∧
      decode 0x41900000000 = .error .busAlign := by decide

theorem test_decode_unmapped :
    decode 0x41800000000 = .error .busUnmapped ∧ decode 0x5FC00000000 = .error .busUnmapped := by decide

theorem test_decode_access :
    decode 0x40000000000 = .error .busAccess ∧ decode 0x50400000000 = .error .busAccess ∧
      decode 0x50800000000 = .error .busAccess ∧ decode 0x50C00000000 = .error .busAccess ∧
      decode 0x51000000000 = .error .busAccess := by decide

theorem test_decode_command :
    decode 0x50000000000 = .error .illegalCmd ∧ decode 0x50000000006 = .error .illegalCmd ∧
      decode 0x500000000FF = .error .illegalCmd ∧ decode 0x50000000101 = .error .illegalCmd ∧
      decode 0x50080000002 = .error .illegalCmd := by decide

theorem test_table_word : decodeTableWord 48 0x514FFFFFFFF = some (.wrFreq 0xFFFFFFFF) ∧
    decodeTableWord 48 0x850000000001 = none := by decide

/-! ### Transactions (95_test_vectors.md 2.2, 2.3) -/

theorem test_cmd_cfg : (did .cmdCfg State.reset).map State.status = some 0x2 := by decide

theorem test_cmd_start_keeps_counts :
    (did .cmdStart { State.reset with e := 510, c := 3, ovfEn := true }).map (fun t => (t.run, t.e, t.c)) =
      some (true, 510, 3) := by decide

theorem test_cmd_start_unconfigured :
    (did .cmdStart State.reset).map (fun t => (t.faults.map (·.code), t.run)) =
      some ([.startUnconfigured], false) := by decide

theorem test_cmd_stop :
    (did .cmdStop { ready with run := true, e := 255, c := 10, ovfPend := true }).map
      (fun t => (t.run, t.e, t.c, t.ovfPend)) = some (false, 0, 0, false) := by decide

theorem test_cmd_trig :
    (did .cmdTrig
      { ready with
        run := true, e := 510, c := 9, ovfPend := true, armedEnd := true, done := true, edgePend := true }).map
      (fun t => (t.trace.head? == some .trigPulse && t.e == 0 && t.c == 0 && !t.ovfPend, t.run, t.armedEnd, t.done,
        t.edgePend)) = some (true, true, false, true, true) := by decide

theorem test_cmd_trig_unconfigured :
    (did .cmdTrig State.reset).map (fun t => (t.faults.map (·.code), t.trace, t.run)) =
      some ([.startUnconfigured], [], false) := by decide

theorem test_cmd_clrdone :
    (did .cmdClrDone { State.reset with done := true, capWidth := 299 }).map (fun t => (t.done, t.capWidth)) =
      some (false, 299) := by decide

theorem test_rd_now : (did .rdNow { State.reset with e := 255, c := 144 }).map lastResult = some (some 399) := by decide

theorem test_rd_now_top :
    (did .rdNow { State.reset with e := 0xFFFFFF00, c := 255 }).map lastResult = some (some 0xFFFFFFFF) := by decide

theorem test_rd_status :
    (did .rdStatus { State.reset with ovfEn := true, armedEnd := true, done := true }).map lastResult =
      some (some 0x32) := by decide

theorem test_rd_status_window :
    (did .rdStatus { State.reset with run := true, ovfEn := true, ovfPend := true }).map lastResult =
      some (some 7) := by decide

theorem test_rd_caps : (did .rdCapS { State.reset with capStart := 100 }).map lastResult = some (some 100) := by decide

theorem test_rd_capw :
    (did .rdCapW { State.reset with done := true, capWidth := 299 }).map lastResult = some (some 299) := by decide

/-- Two reads before `DONE` take two draws (41_capture.md R133). -/
theorem test_rd_capw_draws :
    ((did .rdCapW { State.reset with capWidth := 299 }).bind (did .rdCapW)).map (·.trace) =
      some [.bus .rdCapW (some (Config.freeWord 0)), .bus .rdCapW (some (Config.freeWord 1))] := by rfl

theorem test_wr_freq_rd_freq :
    ((did (.wrFreq 0) { State.reset with freq := 5 }).bind (did .rdFreq)).map lastResult = some (some 0) := by decide

theorem test_rd_freq_reset : (did .rdFreq State.reset).map lastResult = some (some 0) := by decide

/-- The read's result goes to the variable that the statement names (30_encoding.md R78). -/
theorem test_read_destination :
    (took .host (withStmt (.bus 0x40800000000 (some 3)) { State.reset with c := 7 })).map (fun t => (t.vars, t.pc)) =
      some ([(3, 7)], 1) := by decide

/-! ### Events, services, resets (95_test_vectors.md 2.4 to 2.6) -/

theorem test_tick : (took .tick { ready with run := true, c := 10 }).map (·.c) = some 11 := by decide

theorem test_tick_wrap :
    (took .tick { ready with run := true, c := 255, e := 510 }).map (fun t => (t.c, t.ovfPend, t.e, t.faults)) =
      some (0, true, 510, []) := by decide

theorem test_tick_lost :
    (took .tick { ready with run := true, c := 255, ovfPend := true }).map
      (fun t => (t.c, t.ovfPend, t.faults.map (·.code))) = some (0, true, [.ovfLost]) := by decide

theorem test_tick_halted :
    (took .tick { ready with run := true, c := 255, ovfPend := true, inService := .halt }).map (·.faults) =
      some [] := by decide

theorem test_edge_lost :
    (took .edgeIn { State.reset with edgePend := true }).map (fun t => (t.edgePend, t.faults.map (·.code))) =
      some (true, [.edgeLost]) := by decide

theorem test_edge_halted :
    (took .edgeIn { State.reset with edgePend := true, inService := .halt }).map (·.faults) = some [] := by decide

theorem test_gate :
    (took .host (withStmt .ei State.reset)).map (·.gie) = some true ∧
      (took .host (withStmt .di ready)).map (·.gie) = some false := by decide

theorem test_overflow_first :
    (took .dispatchEdge { ready with ovfPend := true, edgePend := true }).map (·.inService) = some .none ∧
      (took .dispatchOvf { ready with ovfPend := true, edgePend := true }).map
        (fun t => (t.ovfPend, t.edgePend, t.inService)) = some (false, true, .ovf) := by decide

theorem test_body_ovf :
    (took .bodyOvf { ready with inService := .ovf, e := 0xFFFFFE01 }).map (fun t => (t.e, t.inService)) =
      some (0xFFFFFF00, .none) := by decide

theorem test_body_ovf_saturates :
    (took .bodyOvf { ready with inService := .ovf, e := 0xFFFFFF00 }).map
      (fun t => (t.sat, t.trace, t.inService, t.e)) = some (true, [.satReq], .halt, 0xFFFFFF00) := by decide

theorem test_body_ovf_quantum_256 :
    (took .bodyOvf { ready with inService := .ovf, e := 0xFFFFFE00, params := ⟨8, 256, .watchdogHalt⟩ }).map
      (fun t => (t.e, t.sat)) = some (0xFFFFFF00, false) := by decide

theorem test_body_edge_start :
    (took .bodyEdge { ready with inService := .edge, e := 255, c := 4 }).map
      (fun t => (t.capStart, t.armedEnd, t.inService)) = some (259, true, .none) := by decide

theorem test_body_edge_end :
    (took .bodyEdge
      { ready with inService := .edge, armedEnd := true, capStart := 100, e := 255, c := 144, run := true }).map
      (fun t => (t.capWidth, t.done, t.run, t.e, t.c)) = some (299, true, false, 0, 0) := by decide

theorem test_body_edge_third :
    (took .bodyEdge { ready with inService := .edge, armedEnd := true, capStart := 100 }).map (·.capWidth) =
      some 0xFFFFFF9C := by decide

theorem test_watchdog :
    (took .wdtReset { ready with inService := .halt, sat := true, e := 0xFFFFFF00 }).map
      (fun t => (t.sat, t.e, t.inService, t.ovfEn, t.trace)) = some (false, 0, .none, false, [.reset .wdt]) := by decide

theorem test_reset_keeps_faults :
    (took .por { ready with faults := [⟨.ovfLost, .tick⟩] }).map (fun t => t.faults.map (·.code)) =
      some [.ovfLost] := by decide

/-- 43_host.md R181: 1000 gives 17 cm, 299 gives 5.083 cm. -/
theorem test_distance : distanceMilli 1000 = 17000 ∧ distanceMilli 299 = 5083 := by decide

/-- The first step after reset runs the word placed. -/
theorem test_first_step :
    (nextOf (step (State.reset.withFetchWord 48 0x51400F42400))).map (·.freq) = some 16000000 := by decide

theorem test_refused : nextOf (step ({ State.reset with refused := true } : State)) = none := by decide

/-! ### Witnesses: for each statement with hypotheses, states and operands that meet them, one per clause -/

/-- `O1`: both ends of the operand's range. -/
theorem witness_DecodeOfEncodeIsTheInstruction : (Instr.wrFreq 0).wf = true ∧ (Instr.wrFreq 0xFFFFFFFF).wf = true := by
  decide

theorem witness_DecodeAcceptsExactlyTheOpcodeMap :
    (0x514FFFFFFFF : Transaction) &&& (Instr.wrFreq 0).row.2 = (Instr.wrFreq 0).row.1 ∧
      (0x514FFFFFFFF : Transaction) &&& (Instr.wrFreq 1).row.2 = (Instr.wrFreq 1).row.1 ∧
      (∀ f, Instr.wrFreq 0xFFFFFFFF = .wrFreq f → f.toNat = (0x514FFFFFFFF : Transaction).toNat % 2 ^ 32) := by
  refine ⟨by decide, by decide, ?_⟩
  rintro f ⟨⟩
  decide

/-- Each reject at a boundary of its range is in `test_decode_size` to `test_decode_command`; here the host's turn. -/
theorem witness_DecodeRejectsInOrder :
    (withStmt (.bus 0x60800000000 none) State.reset).inService = .none ∧
      (withStmt (.bus 0x60800000000 none) State.reset).stmt = some (.bus 0x60800000000 none) ∧
      decode 0x60800000000 = .error .busSize ∧ (∀ r, decode 0x50000000005 ≠ .error r) := by
  refine ⟨rfl, rfl, by decide, ?_⟩
  have h : decode 0x50000000005 = .ok .cmdClrDone := by decide
  intro r
  rw [h]
  exact nofun

theorem witness_NarrowTransfersAreRejected :
    memRead 0x08 1 = some 0x00800000000 ∧ memRead 0x08 2 = some 0x20800000000 ∧ memWrite 0x00 1 1 = some 0x10000000001 ∧
      memWrite 0xFF 2 0xFFFFFFFF = some 0x3FFFFFFFFFF := by decide

theorem witness_StepRunsTheDecodedTransaction :
    let s := { withStmt (.bus 0x41000000000 (some 0)) State.reset with schedule := [.host] }
    s.refused = false ∧ s.schedule = [.host] ∧ s.stmt = some (.bus 0x41000000000 (some 0)) ∧
      decode 0x41000000000 = .ok .rdCapW := by decide

theorem witness_PlacedWordRunsNext :
    State.reset.refused = false ∧ decodeTableWord 48 0x50000000001 = some .cmdCfg ∧
      decodeTableWord 48 0x514FFFFFFFF = some (.wrFreq 0xFFFFFFFF) := by decide

theorem witness_HostWaitsDuringService :
    ({ ready with inService := .ovf } : State).inService ≠ .none ∧
      ({ ready with inService := .edge } : State).inService ≠ .none ∧
      ({ ready with inService := .halt } : State).inService ≠ .none := by decide

theorem witness_UnlistedActionsAreRefused :
    (withStmt .other State.reset).inService = .none ∧ (withStmt .other State.reset).stmt = some .other ∧
      (let s := { ready with inService := .ovf, e := 0xFFFFFF00, params := ⟨8, 255, .other⟩ }
       s.inService = .ovf ∧ s.params.satAction = .other ∧ s.params.satLimit ≤ s.e.toNat) ∧
      ({ State.reset with refused := true } : State).refused = true := by decide

/-- For every statement on a transaction: the host may step, configured or not. -/
theorem witness_CmdStartStartsTheCounter :
    State.reset.inService = .none ∧ State.reset.ovfEn = false ∧ ready.inService = .none ∧ ready.ovfEn = true := by
  decide

theorem witness_CmdCfgEnablesTheOverflowSource : State.reset.inService = .none := rfl
theorem witness_CmdStopZeroesTheClock : ({ ready with run := true, c := 255 } : State).inService = .none := rfl
theorem witness_CmdTrigRestartsTheClock :
    State.reset.inService = .none ∧ State.reset.ovfEn = false ∧ ready.inService = .none ∧ ready.ovfEn = true := by
  decide
theorem witness_CmdClrDoneClearsDone : ({ ready with done := true } : State).inService = .none := rfl
theorem witness_WrFreqStoresItsOperand : ({ ready with freq := 0xFFFFFFFF } : State).inService = .none := rfl
theorem witness_RdFreqReturnsTheRegister : ({ ready with freq := 0xFFFFFFFF } : State).inService = .none := rfl
theorem witness_RdCapsReturnsTheStartTime : ({ ready with capStart := 0xFFFFFFFF } : State).inService = .none := rfl
theorem witness_RdCapwReturnsTheWidthOrADraw :
    ({ ready with done := true } : State).inService = .none ∧ ({ ready with done := true } : State).done = true ∧
      ready.done = false := by decide

/-- What a read leaves, with a destination and without. -/
theorem witness_ReadLeaves :
    (withStmt (.bus 0x40800000000 (some 3)) State.reset).stmt = some (.bus 0x40800000000 (some 3)) ∧
      (∀ T n, State.reset.stmt ≠ some (.bus T (some n))) := ⟨rfl, nofun⟩

theorem witness_CommandsAreIdempotentAndReadsFree :
    (∃ t u, exec .cmdStart State.reset = .next t ∧ exec .cmdStart t = .next u) ∧
      (∃ t u, exec .cmdStart ready = .next t ∧ exec .cmdStart t = .next u) ∧
      (∃ t u, exec .cmdStop ready = .next t ∧ exec .cmdStop t = .next u) ∧
      (Instr.rdCapW.isRead = true ∧ ∃ t, exec .rdCapW ready = .next t) ∧
      (ready.inService = .none ∧ ∃ t, exec (.wrFreq 7) ready = .next t) ∧
      (ready.inService = .none ∧ ready.ovfEn = true ∧ ∃ t, exec .cmdTrig ready = .next t) :=
  ⟨⟨_, _, rfl, rfl⟩, ⟨_, _, rfl, rfl⟩, ⟨_, _, rfl, rfl⟩, ⟨rfl, _, rfl⟩, ⟨rfl, _, rfl⟩, ⟨rfl, rfl, _, rfl⟩⟩

theorem witness_TickCountsWhileRunning :
    (let s := { ready with run := true, c := 254 }
     s.params.wf = true ∧ s.run = true ∧ s.c.toNat < s.params.maxCount) ∧
      (ready.params.wf = true ∧ ready.run = false) := by decide

theorem witness_TickWrapsAtTheTop :
    (let s := { ready with run := true, c := 255, ovfPend := true }
     s.params.wf = true ∧ s.run = true ∧ s.c.toNat = s.params.maxCount ∧ s.ovfPend = true ∧ s.inService ≠ .halt) ∧
      (let s := { ready with run := true, c := 0xFFFF, params := ⟨16, 65535, .watchdogHalt⟩ }
       s.params.wf = true ∧ s.run = true ∧ s.c.toNat = s.params.maxCount ∧ s.ovfPend = false) ∧
      (let s := { ready with run := true, c := 255, ovfPend := true, inService := .halt }
       s.params.wf = true ∧ s.run = true ∧ s.c.toNat = s.params.maxCount ∧ s.inService = .halt) := by decide

theorem witness_EdgeIsLatchedInEveryState :
    (let s := { ready with edgePend := true }
     s.edgePend = true ∧ s.inService ≠ .halt) ∧
      State.reset.edgePend = false ∧ ({ ready with edgePend := true, inService := .halt } : State).inService = .halt := by
  decide

theorem witness_GateStatementsWriteGie :
    (let s := withStmt .ei State.reset
     s.inService = .none ∧ s.stmt = some .ei) ∧
      (let s := withStmt .di ready
       s.inService = .none ∧ s.stmt = some .di) ∧
      (let s := withStmt .ei { ready with inService := .halt }
       s.inService ≠ .none ∧ s.stmt = some .ei) ∧
      (let s := withStmt .di { ready with inService := .ovf }
       s.inService ≠ .none ∧ s.stmt = some .di) := by decide

theorem witness_BranchOnZeroBitMovesThePc :
    let s := withStmt (.bz 0 31 0) { State.reset with vars := [(0, 0x80000000)] }
    s.inService = .none ∧ s.stmt = some (.bz 0 31 0) ∧ (s.var 0).toNat / 2 ^ 31 % 2 = 1 ∧
      (s.var 0).toNat / 2 ^ 30 % 2 = 0 := by decide

theorem witness_DistanceIsExact :
    (withStmt (.distance 1) State.reset).inService = .none ∧
      (withStmt (.distance 1) State.reset).stmt = some (.distance 1) := by decide

theorem witness_DispatchTakesOverflowFirst :
    (let s := { ready with ovfPend := true, edgePend := true }
     s.gie = true ∧ s.inService = .none ∧ s.ovfPend = true ∧ s.ovfEn = true) ∧
      (let s := { ready with edgePend := true }
       s.gie = true ∧ s.inService = .none ∧ s.ovfPend = false ∧ s.edgePend = true) ∧
      (let s := { ready with ovfPend := true, ovfEn := false }
       s.gie = true ∧ s.inService = .none ∧ s.ovfEn = false ∧ s.edgePend = false) ∧
      State.reset.gie = false ∧ ({ ready with inService := .edge } : State).inService ≠ .none := by decide

theorem witness_BodyOvfAddsAQuantumOrSaturates :
    (let s := { ready with inService := .ovf, e := 0xFFFFFEFF }
     s.params.wf = true ∧ s.inService = .ovf ∧ s.e.toNat < s.params.satLimit) ∧
      (let s := { ready with inService := .ovf, e := 0xFFFFFF00 }
       s.params.wf = true ∧ s.inService = .ovf ∧ s.params.satLimit ≤ s.e.toNat ∧ s.params.satAction = .watchdogHalt) ∧
      ready.inService ≠ .ovf := by decide

theorem witness_BodyEdgeCaptures :
    (let s := { ready with inService := .edge }
     s.inService = .edge ∧ s.armedEnd = false) ∧
      (let s := { ready with inService := .edge, armedEnd := true, capStart := 100 }
       s.inService = .edge ∧ s.armedEnd = true) ∧ ready.inService ≠ .edge := by decide

theorem witness_ThirdEdgeGivesTheGarbageWidth :
    let s := { ready with inService := .edge, armedEnd := true, capStart := 100, edgePend := true,
                          schedule := [.bodyEdge, .edgeIn, .dispatchEdge, .bodyEdge] }
    s.refused = false ∧ s.gie = true ∧ s.inService = .edge ∧ s.armedEnd = true ∧
      s.schedule = .bodyEdge :: (servicedEdge ++ []) := by decide

theorem witness_HaltEndsOnlyAtAReset :
    (let s := { ready with inService := .halt, sat := true, schedule := [.wdtReset] }
     s.inService = .halt ∧ (nextOf (step s)).isSome = true) ∧
      (let s := { ready with inService := .halt, sat := true, run := true, c := 255, schedule := [.tick] }
       s.inService = .halt ∧ (nextOf (step s)).isSome = true) := by decide

theorem witness_ServicesDoNotNest :
    let s := { ready with inService := .ovf, e := 0xFFFFFF00, schedule := [.bodyOvf] }
    s.inService ≠ .none ∧ (nextOf (step s)).isSome = true := by decide

theorem witness_ResetClearsAllButTheRecords :
    ({ ready with inService := .halt } : State).inService = .halt ∧ ready.inService ≠ .halt := by decide

theorem witness_ResetStateIsStable :
    AgentStep.tick ≠ .edgeIn ∧ AgentStep.tick ≠ .por ∧ AgentStep.tick ≠ .host ∧ AgentStep.wdtReset ≠ .por := by decide

/-- A state with the invariants that runs and steps. -/
def running : State :=
  { ready with
    run := true, c := 255, e := 510
    schedule := [.tick, .dispatchOvf, .bodyOvf] }

theorem running_blockInv : BlockInv running := by
  constructor <;> decide

theorem witness_RdNowReturnsTheSum :
    BlockInv running ∧ running.inService = .none ∧ running.params.nowFits = true := ⟨running_blockInv, by decide⟩

theorem witness_RdStatusPacksTheFlags : BlockInv running ∧ running.inService = .none := ⟨running_blockInv, rfl⟩

theorem witness_BlockInvariantsAreKept : BlockInv running ∧ (nextOf (step running)).isSome = true :=
  ⟨running_blockInv, by decide⟩

theorem witness_CanonicalFormsAreKept :
    ModelInv ({ running with ovfPend := true } : State) ∧
      (nextOf (step { running with ovfPend := true })).map (fun t => t.faults.length) = some 1 := by
  refine ⟨⟨?_, ?_⟩, by decide⟩ <;> decide

/-- A step with a fault recorded, and a reset of a marked state. -/
theorem witness_RecordsAreNeverLost :
    (nextOf (step { running with faults := [⟨.edgeLost, .edgeIn⟩] })).map (fun t => t.faults.map (·.code)) =
      some [.edgeLost] ∧
      (took .por { ready with refused := true }).map (fun t => (t.refused, t.ovfEn)) = some (true, false) := by decide

theorem witness_OvfEnAndSatAreClearedOnlyByReset :
    let s := { ready with inService := .halt, sat := true, schedule := [.wdtReset] }
    (nextOf (step s)).map (fun t => (t.ovfEn, t.sat)) = some (false, false) ∧ s.ovfEn = true ∧ s.sat = true := by
  decide

theorem witness_AccumulatorHasNoOtherWriter :
    (let s := { ready with inService := .ovf, schedule := [.bodyOvf] }
     (nextOf (step s)).map (·.e) = some 255 ∧ s.e = 0) ∧
      (let s := { withStmt (.bus 0x50000000003 none) ready with e := 255, schedule := [.host] }
       (nextOf (step s)).map (·.e) = some 0 ∧ s.e = 255) := by decide

theorem witness_CaptureFieldsHaveNoOtherWriter :
    let s := { withStmt (.bus 0x50000000004 none) ready with armedEnd := true, schedule := [.host] }
    (nextOf (step s)).map (·.armedEnd) = some false ∧ s.armedEnd = true := by decide

theorem witness_GateHasNoOtherWriter :
    let s := { withStmt .di ready with schedule := [.host] }
    (nextOf (step s)).map (·.gie) = some false ∧ s.gie = true := by decide

theorem witness_PendingWindowLagsByAQuantum :
    BlockInv running ∧ running.refused = false ∧ running.run = true ∧ running.gie = true ∧
      running.inService = .none ∧ running.ovfPend = false ∧ running.c.toNat = running.params.maxCount ∧
      running.e.toNat < running.params.satLimit ∧
      running.schedule = .tick :: .dispatchOvf :: .bodyOvf :: [] :=
  ⟨running_blockInv, by decide⟩

theorem witness_WrapInTheEdgeServiceIsNotInTheTimestamp :
    (let s := { running with inService := .edge, schedule := [.tick, .bodyEdge] }
     s.params.wf = true ∧ s.refused = false ∧ s.inService = .edge ∧ s.run = true ∧ s.ovfPend = false ∧
       s.c.toNat = s.params.maxCount ∧ s.schedule = .tick :: .bodyEdge :: [] ∧ s.armedEnd = false) ∧
      (let s := { running with inService := .edge, armedEnd := true, schedule := [.tick, .bodyEdge] }
       s.params.wf = true ∧ s.refused = false ∧ s.inService = .edge ∧ s.run = true ∧ s.ovfPend = false ∧
         s.c.toNat = s.params.maxCount ∧ s.schedule = .tick :: .bodyEdge :: [] ∧ s.armedEnd = true) := by decide

theorem witness_StaleEdgeIsTakenAsTheStartEdge :
    let s := { withStmt (.bus 0x50000000004 none) ready with
               edgePend := true, schedule := [.host, .dispatchEdge, .bodyEdge] }
    s.refused = false ∧ s.inService = .none ∧ s.gie = true ∧ s.ovfEn = true ∧ s.edgePend = true ∧
      s.stmt = some (.bus 0x50000000004 none) ∧ s.schedule = .host :: .dispatchEdge :: .bodyEdge :: [] := by decide

/-- Three steps with a serviced wrap, from one read to the next. -/
theorem witness_NowIsMonotone :
    BlockInv running ∧ running.params.nowFits = true ∧ quiet 3 running = true ∧ running.inService = .none ∧
      running.ovfPend = false ∧
      (nextOf (runSteps 3 running)).map (fun t => (t.inService, t.ovfPend, t.faults, t.e)) =
        some (.none, false, [], 765) :=
  ⟨running_blockInv, by decide⟩

/-- A wrap among the ticks, with each quantum. -/
theorem witness_NowFollowsTheDriftLaw :
    (let s := { ready with run := true, schedule := servicedTicks 256 }
     s.params.wf = true ∧ s.refused = false ∧ s.run = true ∧ s.ovfEn = true ∧ s.gie = true ∧ s.inService = .none ∧
       s.ovfPend = false ∧ s.c = 0 ∧ s.e = 0 ∧ s.params.quantum * (256 / 2 ^ s.params.wHw) < maxWord ∧
       s.schedule = servicedTicks 256 ++ []) ∧
      (let s := { ready with run := true, params := ⟨8, 256, .watchdogHalt⟩ }
       s.params.wf = true ∧ s.params.wHw = 8 ∧ s.params.quantum = 256) := by
  refine ⟨⟨rfl, rfl, rfl, rfl, rfl, rfl, rfl, rfl, rfl, by decide, ?_⟩, rfl, rfl, rfl⟩
  rw [List.append_nil]

/-- The spec's own example: `a = 100`, `b = 300`. -/
theorem witness_CaptureMeasuresThePulse :
    let s := { ready with
               program := [.bus 0x50000000005 none, .bus 0x50000000004 none]
               schedule := .host :: .host :: (servicedTicks 100 ++ (servicedEdge ++ (servicedTicks 300 ++ (servicedEdge ++ [])))) }
    s.params.wf = true ∧ s.params.nowFits = true ∧ s.refused = false ∧ s.ovfEn = true ∧ s.gie = true ∧
      s.edgePend = false ∧ s.inService = .none ∧ s.faults = [] ∧ s.program[s.pc]? = some (.bus 0x50000000005 none) ∧
      s.program[s.pc + 1]? = some (.bus 0x50000000004 none) ∧
      s.params.quantum * ((100 + 300) / 2 ^ s.params.wHw) < maxWord :=
  ⟨rfl, rfl, rfl, rfl, rfl, rfl, rfl, rfl, rfl, rfl, by decide⟩

theorem witness_ClosedGateKeepsAPendingWrap :
    let s := { ready with gie := false, ovfPend := true, schedule := [.dispatchOvf] }
    s.gie = false ∧ s.inService = .none ∧ s.ovfPend = true ∧ s.nextAgent ≠ .host ∧ s.nextAgent ≠ .por ∧
      (nextOf (step s)).isSome = true := by decide

/-! States whose runs are fair: turns that the schedule places, a reset, and then a block that nothing drives. -/

/-- What keeps a block that no host drives from doing anything. -/
def Undriven (s : State) : Prop := s.gie = false ∧ s.inService = .none ∧ s.run = false ∧ s.program = []

theorem undriven_step {s t : State} (h : Undriven s) (hs : step s = .next t) : Undriven t := by
  obtain ⟨hg, hn, hr, hp⟩ := h
  have hst : s.passTurn.stmt = none := by simp [State.stmt, State.passTurn, hp]
  obtain ⟨a, -, hc⟩ := step_agentCase hs
  cases hc <;> simp_all [Undriven, State.resetBy]

theorem undriven_runSteps : ∀ (n : Nat) (s t : State), Undriven s → runSteps n s = .next t → Undriven t := by
  intro n
  induction n with
  | zero => intro s t h hr; cases hr; exact h
  | succ n ih =>
    intro s t h hr
    simp only [runSteps] at hr
    cases hs : step s with
    | next u => rw [hs] at hr; exact ih u t (undriven_step h hs) hr
    | fault => rw [hs] at hr; cases hr
    | refused => rw [hs] at hr; cases hr

/-- A block that nothing drives is fair to every step that it never enables. -/
theorem weaklyFair_of_undriven {g : List AgentStep} {s : State} (h : Undriven s)
    (hg : ∀ t, Undriven t → anyEnabled g t = false) : WeaklyFair g s := by
  intro n hn
  obtain ⟨t, ht, he⟩ := hn n (Nat.le_refl n)
  rw [hg t (undriven_runSteps n s t h ht)] at he
  cases he

theorem fairRun_of_undriven {s : State} (h : Undriven s) : FairRun s := by
  constructor <;> refine weaklyFair_of_undriven h fun t ht => ?_ <;>
    simp [anyEnabled, dispatchSteps, enabled, State.mayDispatch, ht.1, ht.2.1, ht.2.2.1]

/-- A run is fair if its rest is, and its first step takes what it enables or disables it. -/
theorem weaklyFair_of_step {g : List AgentStep} {s t : State} (hs : step s = .next t) (ht : WeaklyFair g t)
    (h : anyEnabled g s = false ∨ (s.nextAgent ∈ g ∧ enabled s.nextAgent s = true) ∨ anyEnabled g t = false) :
    WeaklyFair g s := by
  intro n hn
  cases n with
  | zero =>
    rcases h with h | h | h
    · obtain ⟨u, hu, he⟩ := hn 0 (Nat.le_refl 0)
      cases hu
      rw [h] at he
      cases he
    · exact ⟨0, Nat.le_refl 0, s, rfl, h⟩
    · obtain ⟨u, hu, he⟩ := hn 1 (Nat.zero_le 1)
      rw [runSteps_succ_of_next hs] at hu
      cases hu
      rw [h] at he
      cases he
  | succ n =>
    obtain ⟨m, hm, u, hu, hg⟩ := ht n fun m hm => by
      obtain ⟨u, hu, he⟩ := hn (m + 1) (Nat.succ_le_succ hm)
      exact ⟨u, by rwa [runSteps_succ_of_next hs] at hu, he⟩
    exact ⟨m + 1, Nat.succ_le_succ hm, u, by rwa [runSteps_succ_of_next hs], hg⟩

/-- Halted, the watchdog's turn placed, and no host program. -/
def halted : State := { ready with inService := .halt, sat := true, schedule := [.wdtReset] }

theorem witness_HaltedBlockIsReset :
    halted.inService = .halt ∧ halted.refused = false ∧ WeaklyFair [.wdtReset] halted :=
  ⟨rfl, rfl,
    weaklyFair_of_step (t := { halted.passTurn.resetBy .wdt with schedule := [] }) rfl
      (fairRun_of_undriven ⟨rfl, rfl, rfl, rfl⟩).watchdog (by decide)⟩

/-- An edge to be serviced, its dispatch placed, then a power-on reset. -/
def requested : State := { ready with edgePend := true, schedule := [.dispatchEdge, .por] }

theorem witness_RequestedServiceIsDispatched :
    requested.refused = false ∧ requested.gie = true ∧ requested.inService = .none ∧ requested.hostAtEnd = true ∧
      (requested.irqOvf || requested.irqEdge) = true ∧ WeaklyFair dispatchSteps requested :=
  ⟨rfl, rfl, rfl, rfl, rfl,
    weaklyFair_of_step (t := { requested with edgePend := false, inService := .edge, schedule := [.por], turn := 1 }) rfl
      (weaklyFair_of_step
        (t := { State.reset with varEpoch := 1, trace := [.reset .por], turn := 2 }) rfl
        (fairRun_of_undriven ⟨rfl, rfl, rfl, rfl⟩).dispatch (by decide))
      (by decide)⟩

/-- A dispatch of one form is enabled and then one of the other: fairness of each form alone would allow that neither is
taken, fairness of the dispatch looks at both (60_exceptions.md R205). -/
theorem test_dispatch_is_one_step :
    let s := { ready with run := true, c := 255, edgePend := true, schedule := [.tick] }
    enabled .dispatchEdge s = true ∧ enabled .dispatchOvf s = false ∧ anyEnabled dispatchSteps s = true ∧
      (nextOf (step s)).map
        (fun t => (enabled .dispatchEdge t, enabled .dispatchOvf t, anyEnabled dispatchSteps t)) =
        some (false, true, true) := by decide

/-! Ends of runs (43_host.md R184). -/

/-- A launched host with one statement. -/
def launched (turns : List AgentStep) : State := { withStmt .ei State.reset with schedule := turns }

/-- The run ends at the reset, and not where the restarted host comes to its end label. -/
theorem test_run_ends_at_the_reset :
    (runToEnd 5 (launched [.por, .host])).map (fun t => (t.trace, t.pc, t.gie)) = some ([.reset .por], 0, false) ∧
      (nextOf (runSteps 2 (launched [.por, .host]))).map runEnded = some true := by decide

theorem test_run_ends_at_the_label :
    (runToEnd 5 (launched [.edgeIn, .host, .tick])).map (fun t => (t.pc, t.gie, t.edgePend)) = some (1, true, true) ∧
      runToEnd 1 (launched [.edgeIn, .host, .tick]) = none := by decide

/-- A state that a claim may observe. -/
theorem witness_Observes : Observes (launched [.host]) { launched [] with gie := true, pc := 1, turn := 1 } :=
  ⟨rfl, by decide, ⟨1, by decide⟩, by decide⟩

theorem witness_RunEndsAtTheFirstEndState :
    (runToEnd 1 (launched [.host])).isSome = true ∧ (runToEnd 0 State.reset).isSome = true ∧
      (let s := launched [.por]
       s.refused = false ∧ runEnded s = false ∧ s.nextAgent = .por) ∧
      (let s := { launched [.wdtReset] with inService := .halt }
       s.refused = false ∧ runEnded s = false ∧ s.nextAgent = .wdtReset ∧ s.inService = .halt) := by decide

end Sys2Proof.Tests
end

section
/-! PROOFS. The rules of 10_state.md that hold of every step: the invariants of the block (R41), the canonical forms of
the fault set and of the host variables, and who writes `E` (R23), `OVF_EN` (R25), `SAT` (R27) and the gate (R36). -/

namespace Sys2Proof.Machine

/-! ### The invariants of the block -/

/-- For the parameter values of 10_state.md R41b a whole number of quanta below `SAT_LIMIT` leaves room for one more
quantum and a full counter: `MAX` is a multiple of 255 and of 65535, and one less than a multiple of 256. -/
theorem addQuantum_nowFits {p : Params} {e : Nat} (hp : p.nowFits = true) (hq : e % p.quantum = 0)
    (hl : e < p.satLimit) : e + p.quantum + p.maxCount ≤ maxWord := by
  simp only [Params.nowFits, Bool.or_eq_true, decide_eq_true_eq] at hp
  simp only [Params.satLimit, Params.maxCount, maxWord] at hl ⊢
  obtain ⟨hw, h255 | h256⟩ | ⟨hw, h65535⟩ := hp
  · rw [h255] at hq hl; rw [hw, h255]; omega
  · rw [h256] at hq hl; rw [hw, h256]; omega
  · rw [h65535] at hq hl; rw [hw, h65535]; omega

/-- A block at its reset values has the invariants, for every legal parameter value. -/
theorem blockInv_of_afterReset {s : State} (hw : s.params.wf = true) (hb : s.block = Block.afterReset) :
    BlockInv s := by
  simp only [State.block, Block.afterReset, Block.mk.injEq] at hb
  obtain ⟨hc, he, hrun, -, -, hsat, -, -, -, -, -, htrig, -, hsvc⟩ := hb
  have hmax : s.params.maxCount ≤ maxWord := by
    have := params_bounds hw
    simp only [maxWord]
    omega
  exact {
    paramsLegal := hw
    counterInRange := hc ▸ Nat.zero_le _
    wholeQuanta := he ▸ Nat.zero_mod _
    nowFits := fun _ => by simpa [he] using hmax
    runConfigured := by simp [hrun]
    satHalted := by simp [hsat, hsvc]
    serviceConfigured := by simp [hsvc]
    triggerLow := htrig }

namespace BlockInv

variable {s : State}

/-- Stopping the clock at zero keeps the invariants (40_clock.md R103). -/
theorem stopClock (h : BlockInv s) : BlockInv s.stopClock :=
  { h with
    counterInRange := Nat.zero_le _
    wholeQuanta := Nat.zero_mod _
    nowFits := fun hf => Nat.le_trans (Nat.add_le_add_right (Nat.zero_le _) _) (h.nowFits hf)
    runConfigured := nofun }

/-- A change of the service that neither enters nor leaves the halt keeps the invariants, the overflow service being
entered only when it is configured. -/
theorem enterService (h : BlockInv s) {svc : Service} (hold : s.inService ≠ .halt) (hnew : svc ≠ .halt)
    (hen : svc = .ovf → s.ovfEn = true) : BlockInv (s.enterService svc) :=
  { h with
    satHalted := iff_of_false (mt h.satHalted.mp hold) hnew
    serviceConfigured := hen }

theorem returnToHost (h : BlockInv s) (hold : s.inService ≠ .halt) : BlockInv s.returnToHost :=
  h.enterService hold nofun nofun

/-- Adding a quantum below `SAT_LIMIT` keeps the invariants (60_exceptions.md R207). -/
theorem addQuantum (h : BlockInv s) (hl : s.e.toNat < s.params.satLimit) :
    BlockInv { s with e := s.e + BitVec.ofNat 32 s.params.quantum } := by
  have he := addQuantum_toNat h.paramsLegal hl
  exact { h with
    wholeQuanta := by simp [he, h.wholeQuanta]
    nowFits := fun hf => he ▸ addQuantum_nowFits hf h.wholeQuanta hl }

/-- Counting below the top keeps the counter in range (42_events.md R160). -/
theorem count (h : BlockInv s) (hl : s.c.toNat < s.params.maxCount) : BlockInv { s with c := s.c + 1 } := by
  have hc : (s.c + 1).toNat ≤ s.c.toNat + 1 := by
    rw [BitVec.toNat_add]
    exact Nat.mod_le _ _
  exact { h with counterInRange := Nat.le_trans hc hl }

/-- Every turn keeps the invariants. Each case names the invariants that its writes touch. -/
theorem turnCase (h : BlockInv s) {a : AgentStep} {t : State} (hc : TurnCase s a t) : BlockInv t := by
  cases hc with
  | cmdCfg => exact { h with runConfigured := fun _ => rfl, serviceConfigured := fun _ => rfl }
  | cmdStart _ _ _ _ _ hen => exact { h with runConfigured := fun _ => hen }
  | cmdStop => exact { h.stopClock with }
  | cmdTrig _ _ _ _ _ hen => exact { h.stopClock with runConfigured := fun _ => hen, triggerLow := rfl }
  | count _ hl => exact h.count hl
  | wrap | wrapLost => exact { h with counterInRange := Nat.zero_le _ }
  | dispatchOvf _ hn _ hen => exact { h.enterService (svc := .ovf) (by simp [hn]) nofun fun _ => hen with }
  | dispatchEdge _ hn => exact { h.enterService (svc := .edge) (by simp [hn]) nofun nofun with }
  | addQuantum hs hl => exact (h.addQuantum hl).returnToHost (by simp [hs])
  | saturate => exact { h with satHalted := iff_of_true rfl rfl, serviceConfigured := nofun }
  | startEdge hs => exact { h.returnToHost (by simp [hs]) with }
  | endEdge hs => exact { h.stopClock.returnToHost (by simp [hs]) with }
  | por | wdt => exact blockInv_of_afterReset h.paramsLegal rfl
  | _ => exact { h with }

end BlockInv

/-- Settles O40: the turn of the next agent keeps the invariants, and passing the turn touches none of them. -/
theorem blockInvariantsAreKept : Obligations.BlockInvariantsAreKept := by
  intro s t h hs
  have hp : BlockInv s.passTurn := { h with }
  exact hp.turnCase (step_turnCase hs)

/-- Settles O41: the launch state has the default parameters and the block's reset values. -/
theorem blockInvariantsHoldAtReset : Obligations.BlockInvariantsHoldAtReset :=
  blockInv_of_afterReset (by decide) rfl

/-! ### The canonical forms -/

/-- Every turn keeps the canonical forms: it inserts a fault, delivers a result, empties the variables, or touches
neither list. -/
theorem ModelInv.turnCase {s t : State} {a : AgentStep} (h : ModelInv s) (hc : TurnCase s a t) : ModelInv t := by
  obtain ⟨hf, hv⟩ := h
  cases hc with
  | illegal | unconfigured | wrapLost | edgeLost => exact ⟨insertRecord_wf _ hf, hv⟩
  | read => exact ⟨hf, deliver_wf _ _ hv⟩
  | por | wdt => exact ⟨hf, .nil⟩
  | _ => exact ⟨hf, hv⟩

/-- Settles O42: both lists are empty at launch, and every turn keeps their forms. -/
theorem canonicalFormsAreKept : Obligations.CanonicalFormsAreKept :=
  ⟨⟨.nil, .nil⟩, fun s _ h hs => ModelInv.turnCase (s := s.passTurn) h (step_turnCase hs)⟩

/-! ### The writers of single fields -/

/-- A turn is a reset, or `OVF_EN` and `SAT` stay set where they are. -/
theorem TurnCase.reset_or_keeps_ovfEn_sat {s t : State} {a : AgentStep} (hc : TurnCase s a t) :
    (∃ k, t = s.resetBy k) ∨ ((s.ovfEn = true → t.ovfEn = true) ∧ (s.sat = true → t.sat = true)) := by
  cases hc with
  | por | wdt => exact .inl ⟨_, rfl⟩
  | cmdCfg => exact .inr ⟨fun _ => rfl, id⟩
  | saturate => exact .inr ⟨id, fun _ => rfl⟩
  | _ => exact .inr ⟨id, id⟩

/-- Settles O44: a turn that is no reset keeps both bits, and a reset appends itself to the trace. -/
theorem ovfEnAndSatAreClearedOnlyByReset : Obligations.OvfEnAndSatAreClearedOnlyByReset := by
  intro s t hs hclear
  obtain ⟨k, rfl⟩ | ⟨hen, hsat⟩ := (step_turnCase hs).reset_or_keeps_ovfEn_sat
  · exact ⟨k, rfl⟩
  · obtain ⟨h, h'⟩ | ⟨h, h'⟩ := hclear
    · simp [hen h] at h'
    · simp [hsat h] at h'

/-- A host turn at `CMD STOP`, or at `CMD TRIG` once configured, clears the clock (40_clock.md R113). -/
theorem clearsClock_of_command {s : State} {T : Transaction} {dst : Option Nat} (ha : s.nextAgent = .host)
    (hn : s.inService = .none) (hs : s.stmt = some (.bus T dst))
    (hd : decode T = .ok .cmdStop ∨ (decode T = .ok .cmdTrig ∧ s.ovfEn = true)) : clearsClock s = true := by
  obtain hd | ⟨hd, hen⟩ := hd
  · simp [clearsClock, ha, hn, hs, hd]
  · simp [clearsClock, ha, hn, hs, hd, hen]

/-- Settles O45: of all that a step can do only the overflow body, the two clearing commands, the end edge and the
resets write `E`. -/
theorem accumulatorHasNoOtherWriter : Obligations.AccumulatorHasNoOtherWriter := by
  intro s t hs hne
  obtain ⟨a, ha, hc⟩ := step_agentCase hs
  cases hc with
  | addQuantum hsvc => exact .inl ⟨ha, hsvc, rfl⟩
  | cmdStop T dst hn hst hd => exact .inr ⟨clearsClock_of_command ha hn hst (.inl hd), rfl⟩
  | cmdTrig T dst hn hst hd hen => exact .inr ⟨clearsClock_of_command ha hn hst (.inr ⟨hd, hen⟩), rfl⟩
  | endEdge hsvc harm => exact .inr ⟨by simpa [clearsClock, ha] using And.intro hsvc harm, rfl⟩
  | por => exact .inr ⟨by simp [clearsClock, ha], rfl⟩
  | wdt hsvc => exact .inr ⟨by simpa [clearsClock, ha] using hsvc, rfl⟩
  | _ => exact absurd rfl hne

/-- Settles O47: of all that a step can do only `EI`, `DI` and the resets write the gate. -/
theorem gateHasNoOtherWriter : Obligations.GateHasNoOtherWriter := by
  intro s t hs hne
  obtain ⟨a, ha, hc⟩ := step_agentCase hs
  cases hc with
  | ei _ hst => exact .inl ⟨ha, .inl hst⟩
  | di _ hst => exact .inl ⟨ha, .inr hst⟩
  | por | wdt => exact .inr ⟨_, rfl⟩
  | _ => exact absurd rfl hne

end Sys2Proof.Machine
end

section
/-! PROOFS. The rules of 20_memory.md: the size of a transfer (R51) and the side effects of the transactions (R57). -/

namespace Sys2Proof.Machine

/-! ### The size of a transfer -/

/-- Only a 4-byte transfer has the `SIZE` of a word (30_encoding.md R70). -/
theorem sizeField_ne_word {n : Nat} {sz : BitVec 2} (hn : n ≠ 4) (h : sizeField n = some sz) : sz ≠ 0b10 := by
  simp only [sizeField, if_neg hn] at h
  split at h
  · cases h; decide
  · split at h
    · cases h; decide
    · cases h

/-- The size is the first check of the decoder: whatever the other fields are, it decides (30_encoding.md R75). -/
theorem decode_pack_of_size_ne {sz : BitVec 2} (h : sz ≠ 0b10) (dir : BitVec 1) (off : BitVec 8) (data : Word) :
    decode (pack sz dir off data) = .error .busSize := by
  rw [decode, pack_size, if_pos h]

/-- Settles O5: a read and a write are packed with the `SIZE` of their transfer, which is not that of a word. -/
theorem narrowTransfersAreRejected : Obligations.NarrowTransfersAreRejected := by
  intro off n v T hn h
  simp only [memRead, memWrite, Option.map_eq_some_iff] at h
  obtain ⟨sz, hsz, rfl⟩ | ⟨sz, hsz, rfl⟩ := h
  all_goals exact decode_pack_of_size_ne (sizeField_ne_word hn hsz) _ _ _

/-! ### The side effects of the transactions -/

theorem exec_of_none (i : Instr) {s : State} (hn : s.inService = .none) : exec i s = .next (execEffect i s) := by
  rw [exec_eq, hostStep_of_none _ hn]

/-- An instruction answers its effect when the host may step, and the state itself while the host waits. -/
theorem exec_next {i : Instr} {s t : State} (h : exec i s = .next t) :
    (s.inService = .none ∧ t = execEffect i s) ∨ (s.inService ≠ .none ∧ t = s) := by
  by_cases hn : s.inService = .none
  · rw [exec_of_none i hn] at h
    cases h
    exact .inl ⟨hn, rfl⟩
  · rw [exec_eq, hostStep_of_ne _ hn] at h
    cases h
    exact .inr ⟨hn, rfl⟩

/-- What an instruction leaves of the block, from the block alone, when the host may step. -/
def blockEffect : Instr → Block → Block
  | .cmdCfg, b => { b with ovfEn := true }
  | .cmdStart, b => if b.ovfEn then { b with run := true } else b
  | .cmdStop, b => { b with run := false, c := 0, e := 0, ovfPend := false }
  | .cmdTrig, b =>
    if b.ovfEn then { b with run := true, c := 0, e := 0, ovfPend := false, trigOut := false, armedEnd := false } else b
  | .cmdClrDone, b => { b with done := false }
  | .wrFreq f, b => { b with freq := f }
  | .rdStatus, b | .rdNow, b | .rdCapS, b | .rdCapW, b | .rdFreq, b => b

/-- The block part of an instruction's effect: ending a transaction, delivering a result and drawing a word touch no
field of the block. -/
theorem execEffect_block (i : Instr) (s : State) : (execEffect i s).block = blockEffect i s.block := by
  cases i with
  | cmdStart | cmdTrig => exact apply_ite State.block ..
  | rdCapW => exact (apply_ite State.block ..).trans (ite_self _)
  | _ => rfl

/-- No instruction writes the host's gate (10_state.md R36). -/
theorem execEffect_gie (i : Instr) (s : State) : (execEffect i s).gie = s.gie := by
  cases i with
  | cmdStart | cmdTrig | rdCapW => exact (apply_ite State.gie ..).trans (ite_self _)
  | _ => rfl

theorem blockEffect_read {i : Instr} (h : i.isRead = true) (b : Block) : blockEffect i b = b := by
  cases i with
  | rdStatus | rdNow | rdCapS | rdCapW | rdFreq => rfl
  | _ => cases h

/-- The four commands write constants, under a condition that they leave as it is: `CMD START` reads `OVF_EN` only. -/
theorem blockEffect_idem {i : Instr} (h : i = .cmdCfg ∨ i = .cmdStart ∨ i = .cmdStop ∨ i = .cmdClrDone) (b : Block) :
    blockEffect i (blockEffect i b) = blockEffect i b := by
  obtain rfl | rfl | rfl | rfl := h
  · rfl
  · cases hen : b.ovfEn <;> simp [blockEffect, hen]
  · rfl
  · rfl

/-- An instruction whose effect on the block is idempotent leaves the block at its second run as the first left it,
whether the host may step or waits. -/
theorem exec_exec_block {i : Instr} {s t u : State} (hi : ∀ b, blockEffect i (blockEffect i b) = blockEffect i b)
    (ht : exec i s = .next t) (hu : exec i t = .next u) : u.block = t.block := by
  obtain ⟨hn, rfl⟩ | ⟨-, rfl⟩ := exec_next hu
  · obtain ⟨-, rfl⟩ | ⟨hs, rfl⟩ := exec_next ht
    · rw [execEffect_block, execEffect_block, hi]
    · exact absurd hn hs
  · rfl

/-- A read leaves the block and the gate, whether the host may step or waits. -/
theorem exec_read_frame {i : Instr} {s t : State} (hi : i.isRead = true) (h : exec i s = .next t) :
    t.block = s.block ∧ t.gie = s.gie := by
  obtain ⟨-, rfl⟩ | ⟨-, rfl⟩ := exec_next h
  · exact ⟨by rw [execEffect_block, blockEffect_read hi], execEffect_gie i s⟩
  · exact ⟨rfl, rfl⟩

/-- `CMD TRIG` of a configured block appends the pulse and then the transaction to the trace (41_capture.md R130). -/
theorem execEffect_cmdTrig_trace {s : State} (hen : s.ovfEn = true) :
    (execEffect .cmdTrig s).trace = s.trace ++ [.trigPulse, .bus .cmdTrig none] := by
  simp [execEffect, hen]

/-- Settles O19: the commands' effects on the block are idempotent and the reads' are none; `WR FREQ` and `CMD TRIG` are
read off their effects. -/
theorem commandsAreIdempotentAndReadsFree : Obligations.CommandsAreIdempotentAndReadsFree := by
  refine ⟨fun i s t u hi => exec_exec_block (blockEffect_idem hi), fun i s t => exec_read_frame, ?_, ?_⟩
  · intro f s t hn h
    rw [exec_of_none _ hn] at h
    cases h
    exact execEffect_block (.wrFreq f) s
  · intro s t hn hen h
    rw [exec_of_none _ hn] at h
    cases h
    exact execEffect_cmdTrig_trace hen

end Sys2Proof.Machine
end

section
/-! PROOFS. The rules of 30_encoding.md about words: the opcode map (R74), the round trip of encoder and decoder, the
worked encodings (R80), and the decoder's checks in their order (R75). -/

namespace Sys2Proof

/-! ### The opcode map -/

/-- The instruction of the same row whose operand is `d`: only `WR FREQ` has an operand (30_encoding.md R77). -/
def Instr.withOperand : Instr → Word → Instr
  | .wrFreq _, d => .wrFreq d
  | i, _ => i

/-- A row of the opcode map says nothing of the operand (30_encoding.md R74). -/
theorem Instr.row_withOperand (i : Instr) (d : Word) : (i.withOperand d).row = i.row := by
  cases i <;> rfl

theorem Instr.withOperand_eq_self_iff (i : Instr) (d : Word) :
    i.withOperand d = i ↔ ∀ f, i = .wrFreq f → f = d := by
  cases i with
  | wrFreq g => simp [Instr.withOperand, eq_comm]
  | _ => exact iff_of_true rfl nofun

/-- A read and `WR FREQ` are told by the top 11 bits of the word; the rest is `DATA`. -/
theorem decode_of_top {T : Transaction} {k : Nat} (h : T.toNat / 2 ^ 32 = k) :
    decode T = decodeFields (k / 2 ^ 9) (k / 2 ^ 8 % 2) (k % 256) (T.toNat % 2 ^ 32 / 256) (T.toNat % 2 ^ 32 % 256)
      (Transaction.data T) := by
  have hsize : T.toNat / 2 ^ 41 = k / 2 ^ 9 := by omega
  have hdir : T.toNat / 2 ^ 40 = k / 2 ^ 8 := by omega
  rw [decode_eq_decodeFields, hsize, hdir, h]

/-- A word that selects a row decodes to the instruction of that row, with the operand that the word carries. -/
theorem decode_of_row {T : Transaction} {i : Instr} (h : T &&& i.row.2 = i.row.1) :
    decode T = .ok (i.withOperand (Transaction.data T)) := by
  rw [row_iff] at h
  cases i with
  | cmdCfg | cmdStart | cmdStop | cmdTrig | cmdClrDone => rw [decode_eq_decodeFields, h]; rfl
  | rdStatus | rdNow | rdCapS | rdCapW | rdFreq | wrFreq => rw [decode_of_top h]; rfl

/-- A word that decodes selects the row of its instruction and carries the instruction's operand. -/
theorem row_of_decode {T : Transaction} {i : Instr} (h : decode T = .ok i) :
    T &&& i.row.2 = i.row.1 ∧ i.withOperand (Transaction.data T) = i := by
  rw [decode_eq_decodeFields] at h
  obtain ⟨hsize, hfields⟩ := decodeFields_ok h
  rw [row_iff]
  cases i with
  | wrFreq f =>
    obtain ⟨hdir, hoff, rfl⟩ := hfields
    exact ⟨by dsimp only; omega, rfl⟩
  | _ => exact ⟨by dsimp only at *; omega, rfl⟩

/-- The decoder is the opcode map (30_encoding.md R74). -/
theorem decode_eq_ok_iff (T : Transaction) (i : Instr) :
    decode T = .ok i ↔ T &&& i.row.2 = i.row.1 ∧ i.withOperand (Transaction.data T) = i :=
  ⟨row_of_decode, fun ⟨hrow, hop⟩ => by rw [decode_of_row hrow, hop]⟩

/-- A word that no check rejects decodes to the instruction whose row it selects. -/
theorem exists_row_of_no_reject {T : Transaction} (h : ∀ r, decode T ≠ .error r) :
    ∃ i, decode T = .ok i ∧ T &&& i.row.2 = i.row.1 := by
  cases hd : decode T with
  | error r => exact absurd hd (h r)
  | ok i => exact ⟨i, rfl, (row_of_decode hd).1⟩

/-- No word selects two rows: each of them would be the row of the one instruction that the word decodes to. -/
theorem row_unique {T : Transaction} {i j : Instr} (hi : T &&& i.row.2 = i.row.1) (hj : T &&& j.row.2 = j.row.1) :
    i.row = j.row := by
  have h := Except.ok.inj ((decode_of_row hi).symm.trans (decode_of_row hj))
  rw [← i.row_withOperand (Transaction.data T), h, j.row_withOperand]

/-- Settles O2: the decoder is the opcode map, an operand and `DATA` being equal as words when they are as numbers. -/
theorem decodeAcceptsExactlyTheOpcodeMap : Obligations.DecodeAcceptsExactlyTheOpcodeMap := by
  refine ⟨fun T i => ?_, fun T i j => row_unique⟩
  simp only [decode_eq_ok_iff, Instr.withOperand_eq_self_iff, ← BitVec.toNat_inj, Transaction.data_toNat]

/-! ### The encoder -/

/-- The encoding of every instruction is a legal word transfer of the instruction's row. -/
theorem legalTransfer (i : Instr) : Laws.LegalTransfer.Statement i := by
  cases i with
  | cmdCfg => exact Laws.LegalTransfer.cmdCfg
  | cmdStart => exact Laws.LegalTransfer.cmdStart
  | cmdStop => exact Laws.LegalTransfer.cmdStop
  | cmdTrig => exact Laws.LegalTransfer.cmdTrig
  | cmdClrDone => exact Laws.LegalTransfer.cmdClrDone
  | rdStatus => exact Laws.LegalTransfer.rdStatus
  | rdNow => exact Laws.LegalTransfer.rdNow
  | rdCapS => exact Laws.LegalTransfer.rdCapS
  | rdCapW => exact Laws.LegalTransfer.rdCapW
  | rdFreq => exact Laws.LegalTransfer.rdFreq
  | wrFreq f => exact Laws.LegalTransfer.wrFreq f

theorem encode_row (i : Instr) : encode i &&& i.row.2 = i.row.1 := by
  obtain ⟨-, -, -, -, hsel⟩ := legalTransfer i
  exact beq_iff_eq.mp hsel

/-- The encoding carries the instruction's operand. -/
theorem withOperand_data_encode (i : Instr) : i.withOperand (Transaction.data (encode i)) = i := by
  cases i with
  | wrFreq f => exact congrArg Instr.wrFreq (pack_data ..)
  | _ => rfl

theorem decode_encode (i : Instr) : decode (encode i) = .ok i :=
  (decode_eq_ok_iff _ i).mpr ⟨encode_row i, withOperand_data_encode i⟩

/-- Settles O1: the encoding selects the instruction's row and carries its operand. -/
theorem decodeOfEncodeIsTheInstruction : Obligations.DecodeOfEncodeIsTheInstruction :=
  fun i _ => decode_encode i

/-- Settles O4: the three words are the encodings, which decode back; the illegal words fail a check each. -/
theorem workedEncodingsDecode : Obligations.WorkedEncodingsDecode :=
  ⟨rfl, rfl, rfl, rfl, rfl, rfl, decode_encode .cmdCfg, decode_encode .rdNow, decode_encode (.wrFreq 16000000),
    by decide, by decide, by decide⟩

/-- `WR FREQ` carries its operand under the fixed upper bits of its row (30_encoding.md R70, R74). -/
theorem encode_wrFreq (f : Word) : encode (.wrFreq f) = 0x51400000000 ||| f.zeroExtend 43 := rfl

/-! ### The checks of the decoder -/

section
variable {size dir off rsv opc : Nat} {d : Word}

theorem decodeFields_eq_busSize_iff : decodeFields size dir off rsv opc d = .error .busSize ↔ size ≠ 2 :=
  ⟨fun h => decodeFields_error h, fun h => if_pos h⟩

theorem decodeFields_eq_busAlign_iff :
    decodeFields size dir off rsv opc d = .error .busAlign ↔ size = 2 ∧ off % 4 ≠ 0 := by
  refine ⟨fun h => decodeFields_error h, ?_⟩
  rintro ⟨rfl, hal⟩
  exact if_pos hal

theorem decodeFields_eq_busUnmapped_iff :
    decodeFields size dir off rsv opc d = .error .busUnmapped ↔ size = 2 ∧ off % 4 = 0 ∧ 24 ≤ off := by
  refine ⟨fun h => decodeFields_error h, ?_⟩
  rintro ⟨rfl, hal, hoff⟩
  simp [decodeFields, hal, hoff]

theorem decodeFields_eq_busAccess_iff :
    decodeFields size dir off rsv opc d = .error .busAccess ↔
      size = 2 ∧ (dir ≠ 1 ∧ off = 0 ∨ dir = 1 ∧ (off = 4 ∨ off = 8 ∨ off = 12 ∨ off = 16)) := by
  refine ⟨fun h => decodeFields_error h, ?_⟩
  rintro ⟨rfl, ⟨hdir, rfl⟩ | ⟨rfl, rfl | rfl | rfl | rfl⟩⟩
  · exact if_neg hdir
  all_goals rfl

theorem decodeFields_eq_illegalCmd_iff :
    decodeFields size dir off rsv opc d = .error .illegalCmd ↔
      size = 2 ∧ dir = 1 ∧ off = 0 ∧ (rsv ≠ 0 ∨ opc = 0 ∨ 5 < opc) := by
  refine ⟨fun h => decodeFields_error h, ?_⟩
  rintro ⟨rfl, rfl, rfl, hrsv | hopc⟩
  · exact if_pos hrsv
  · have hne : opc ≠ 1 ∧ opc ≠ 2 ∧ opc ≠ 3 ∧ opc ≠ 4 ∧ opc ≠ 5 := by omega
    simp [decodeFields, hne]

end

end Sys2Proof
end

section
/-! PROOFS. The rules of 30_encoding.md about the host's statements: a rejected word (R75), the branch (R78) and the
pseudo-instructions (R79). -/

namespace Sys2Proof.Machine

/-- A host that may step and has a statement takes it. -/
theorem takeTurn_host_of_stmt {s : State} {st : HostStmt} (hn : s.inService = .none) (hst : s.stmt = some st) :
    takeTurn .host s = .next (hostEffect s) := by
  simp [takeTurn_eq, turnEffect, enabled, hn, hst]

/-- A rejected word records its fault, and the host goes on (30_encoding.md R75, log 13). -/
theorem hostEffect_of_reject {s : State} {T : Transaction} {dst : Option Nat} {r : Reject}
    (hst : s.stmt = some (.bus T dst)) (hd : decode T = .error r) :
    hostEffect s = (s.recordFault (rejectFault r) (.bus T)).advance := by
  simp [hostEffect, hst, hd]

/-- Settles O3: the decoder reads the fields alone and rejects them by its first failing check; the host's turn at a
rejected word records the fault. -/
theorem decodeRejectsInOrder : Obligations.DecodeRejectsInOrder := by
  refine ⟨?_, fun s T dst r hn hst hd => ?_⟩
  · intro T size dir off data
    have hdir : dir = 0 ↔ dir ≠ 1 := Nat.mod_two_ne_one.symm
    refine ⟨?_, ?_, ?_, ?_, ?_, exists_row_of_no_reject⟩
    all_goals rw [decode_eq_decodeFields]
    · exact decodeFields_eq_busSize_iff
    · exact decodeFields_eq_busAlign_iff
    · exact decodeFields_eq_busUnmapped_iff
    · rw [hdir]
      exact decodeFields_eq_busAccess_iff
    · exact decodeFields_eq_illegalCmd_iff
  · rw [takeTurn_host_of_stmt hn hst, hostEffect_of_reject hst hd]
    rfl

/-- `BZ` writes the pc alone, by the bit as a digit of the variable's number (30_encoding.md R78, log 27). -/
theorem branchZero_eq (h b label : Nat) (s : State) :
    branchZero h b label s = { s with pc := if (s.var h).toNat / 2 ^ b % 2 = 0 then label else s.pc + 1 } := by
  simp only [branchZero, BitVec.getLsbD, Nat.testBit_eq_decide_div_mod_eq, decide_eq_true_eq]
  split
  · rw [if_neg (by omega)]
    rfl
  · rw [if_pos (by omega)]

/-- Settles O28: the host's turn at `BZ` is the branch. -/
theorem branchOnZeroBitMovesThePc : Obligations.BranchOnZeroBitMovesThePc := by
  intro s h b label hn hst
  have heff : hostEffect s = branchZero h b label s := by simp [hostEffect, hst]
  rw [takeTurn_host_of_stmt hn hst, heff, branchZero_eq]

/-- Settles O30: each word of an expansion is the encoding of its transaction. -/
theorem readSyncIssuesItsWords : Obligations.ReadSyncIssuesItsWords := by
  refine ⟨fun f => ?_, rfl, fun _ => rfl, fun _ _ => rfl, fun _ _ => rfl, fun _ _ _ => rfl⟩
  rw [← encode_wrFreq]
  rfl

end Sys2Proof.Machine
end

section
/-! PROOFS. The clock unit's transactions (40_clock.md R100 to R111): the host's step, the commands and the reads. -/

namespace Sys2Proof.Machine

/-! ### The host's step -/

/-- Settles O6: the placed turn is the host's, and the turn of a host at a word that decodes is the instruction. -/
theorem stepRunsTheDecodedTransaction : Obligations.StepRunsTheDecodedTransaction := by
  intro s T dst i rest hr hsch hst hd
  rw [step_of_schedule hr hsch]
  exact turnEffect_host (s := { s with schedule := rest, turn := s.turn + 1 }) hst hd

/-- The statement that is placed stands at the pc, which is inside the program or at its end (log 3). -/
@[simp] theorem State.withNextStmt_stmt (s : State) (st : HostStmt) : (s.withNextStmt st).stmt = some st := by
  have hlen : (s.program.take s.pc).length = min s.pc s.program.length := List.length_take
  rw [State.stmt, State.withNextStmt_program, State.withNextStmt_pc, ← hlen,
    List.getElem?_append_right (Nat.le_refl _), Nat.sub_self, List.getElem?_cons_zero]

/-- A table number that decodes is placed as the statement of its word. -/
theorem tableStmt_of_decode {nbits w : Nat} {i : Instr} (h : decodeTableWord nbits w = some i) :
    ∃ T, tableStmt nbits w = .bus T none ∧ decode T = .ok i := by
  unfold decodeTableWord at h
  unfold tableStmt
  cases hT : tableWord nbits w with
  | none => simp [hT] at h
  | some T =>
    cases hd : decode T with
    | error r => simp [hT, hd] at h
    | ok j =>
      simp only [hT, hd, Option.some.injEq] at h
      exact ⟨T, rfl, h ▸ hd⟩

/-- Settles O7: the placed state has the word at its pc and the host's turn next, so the step is the one of O6. -/
theorem placedWordRunsNext : Obligations.PlacedWordRunsNext := by
  intro s nbits w i hr hw
  obtain ⟨T, hst, hd⟩ := tableStmt_of_decode hw
  refine stepRunsTheDecodedTransaction (s.withFetchWord nbits w) T none i s.schedule hr rfl ?_ hd
  rw [State.withFetchWord, hst, State.withNextStmt_stmt]

/-- Settles O8: outside `NONE` the host's step is not enabled and every instruction is the host's step. -/
theorem hostWaitsDuringService : Obligations.HostWaitsDuringService := by
  refine ⟨fun s hs => ⟨by simp [enabled, hs], fun i => ?_⟩, fun a s ha => by simp [takeTurn, ha]⟩
  rw [exec_eq, hostStep_of_ne _ hs]

/-! ### The commands and the register write -/

/-- Settles O12: the word is the encoding of `CMD CFG`, whose effect is the one write. -/
theorem cmdCfgEnablesTheOverflowSource : Obligations.CmdCfgEnablesTheOverflowSource :=
  ⟨decode_encode .cmdCfg, fun _ hn => exec_of_none .cmdCfg hn⟩

/-- Settles O13: the effect of `CMD START` branches on `OVF_EN`. -/
theorem cmdStartStartsTheCounter : Obligations.CmdStartStartsTheCounter := by
  refine ⟨decode_encode .cmdStart, fun s hn => ⟨fun hen => ?_, fun hen => ?_⟩⟩
  · rw [exec_of_none _ hn, execEffect, if_pos hen]
    rfl
  · rw [exec_of_none _ hn, execEffect, if_neg (by simp [hen])]
    rfl

/-- Settles O14: the word is the encoding of `CMD STOP`, whose effect is to stop the clock at zero. -/
theorem cmdStopZeroesTheClock : Obligations.CmdStopZeroesTheClock :=
  ⟨decode_encode .cmdStop, fun _ hn => exec_of_none .cmdStop hn⟩

/-- Settles O17: the word of the row with `DATA` `f` is the encoding of `WR FREQ, f`. -/
theorem wrFreqStoresItsOperand : Obligations.WrFreqStoresItsOperand :=
  fun f => ⟨decode_encode (.wrFreq f), fun _ hn => exec_of_none (.wrFreq f) hn⟩

/-! ### The reads -/

/-- A read's `DATA` is ignored (30_encoding.md R70, R77). -/
theorem decode_read_data (off : BitVec 8) (d : Word) : decode (pack 0b10 0 off d) = decode (readWord off) := by
  have hdir (x : Word) : Transaction.isWrite (pack 0b10 0 off x) = false :=
    Bool.eq_false_iff.mpr (mt (pack_isWrite ..).mp (by decide))
  simp only [readWord, decode, pack_size, pack_off, hdir]
  rfl

/-- A host variable after `hN <- v`: the one that was written holds `v`, the others what they held. -/
theorem var_of_setVar {s t : State} {n : Nat} {v : Word} (hv : t.vars = setVar n v s.vars)
    (he : t.varEpoch = s.varEpoch) : t.var n = v ∧ ∀ m, m ≠ n → t.var m = s.var m := by
  refine ⟨by simp only [State.var, hv, lookupVar_setVar_self], fun m hm => ?_⟩
  simp only [State.var, hv, he, lookupVar_setVar_other hm]

/-- Only a transaction's statement names a destination (30_encoding.md R78). -/
theorem bus_of_stmtDest {st : Option HostStmt} {n : Nat} (h : stmtDest st = some n) :
    ∃ T, st = some (.bus T (some n)) := by
  unfold stmtDest at h
  split at h
  · exact ⟨_, by rw [h]⟩
  · cases h

/-- The end of a read leaves what a read of `v` has to leave (30_encoding.md R70, R78, 40_clock.md R100). -/
theorem completeRead_leaves (i : Instr) (v : Word) (s : State) : ReadLeaves i v s (s.completeRead i v) := by
  refine ⟨rfl, fun T n hst => var_of_setVar ?_ rfl, fun hst => ?_⟩
  · simp [hst, stmtDest, deliver]
  · have hdest : stmtDest s.stmt = none := Option.eq_none_iff_forall_ne_some.mpr fun n hn =>
      (bus_of_stmtDest hn).elim fun T hT => hst T n hT
    simp [hdest, deliver]

/-- Under the invariants of 10_state.md R41 and the parameter values of R41b `E + C` does not exceed `MAX`. -/
theorem BlockInv.now_le_maxWord {s : State} (h : BlockInv s) (hf : s.params.nowFits = true) :
    s.e.toNat + s.c.toNat ≤ maxWord :=
  Nat.le_trans (Nat.add_le_add_left h.counterInRange _) (h.nowFits hf)

theorem State.now_eq_ofNat (s : State) : s.now = BitVec.ofNat 32 (s.e.toNat + s.c.toNat) :=
  BitVec.eq_of_toNat_eq (by rw [s.now_toNat, BitVec.toNat_ofNat])

/-- Settles O15: `RD NOW` ends as a read of `NOW`, which is the modular sum. -/
theorem rdNowReturnsTheSum : Obligations.RdNowReturnsTheSum := by
  refine ⟨fun d => (decode_read_data 0x08 d).trans (decode_encode .rdNow), fun s hn => ?_,
    fun s => BlockInv.now_le_maxWord⟩
  rw [← s.now_eq_ofNat]
  exact ⟨_, exec_of_none _ hn, completeRead_leaves ..⟩

/-- Settles O16: `RD STATUS` ends as a read of `STATUS`, which is the sum of its bits; `SAT` is 1 only in the halt. -/
theorem rdStatusPacksTheFlags : Obligations.RdStatusPacksTheFlags := by
  refine ⟨fun d => (decode_read_data 0x04 d).trans (decode_encode .rdStatus), fun s hn => ?_, fun s h hn => ?_⟩
  · rw [← s.status_eq]
    exact ⟨_, exec_of_none _ hn, completeRead_leaves ..⟩
  · exact Bool.eq_false_iff.mpr (mt h.satHalted.mp (by simp [hn]))

/-- Settles O18: `RD FREQ` ends as a read of `FREQ`. -/
theorem rdFreqReturnsTheRegister : Obligations.RdFreqReturnsTheRegister :=
  ⟨fun d => (decode_read_data 0x14 d).trans (decode_encode .rdFreq), rfl,
    fun _ hn => ⟨_, exec_of_none _ hn, completeRead_leaves ..⟩⟩

end Sys2Proof.Machine
end

section
/-! PROOFS. `NOW` does not decrease (40_clock.md R113): the reading that `NOW` comes to once every wrap is serviced
never decreases over steps that do not clear the clock, short of a lost wrap or the halt. -/

namespace Sys2Proof.Machine

section
variable {s t : State}

/-- The wraps whose quantum is not yet in `E`: the one that is latched and the one whose body has not run. -/
def State.owedWraps (s : State) : Nat := s.ovfPend.toNat + (decide (s.inService = .ovf)).toNat

/-- What `NOW` comes to once the owed wraps are serviced, in exact arithmetic. -/
def State.settledNow (s : State) : Nat := s.e.toNat + s.c.toNat + s.params.quantum * s.owedWraps

/-- No fault is recorded and the block is not halted. -/
structure OnTrack (s : State) : Prop where
  noFault : s.faults = []
  notHalted : s.inService ≠ .halt

/-- Where no wrap is owed `NOW` is settled, as it does not wrap (10_state.md R41b). -/
theorem settledNow_eq_now (h : BlockInv s) (hf : s.params.nowFits = true) (hn : s.inService = .none)
    (hp : s.ovfPend = false) : s.settledNow = s.now.toNat := by
  have hle := h.now_le_maxWord hf
  simp only [maxWord] at hle
  rw [s.now_toNat, Nat.mod_eq_of_lt (by omega)]
  simp [State.settledNow, State.owedWraps, hn, hp]

/-- Below the top of its range the counter counts without a wrap (42_events.md R160). -/
theorem count_toNat (hw : s.params.wf = true) (hl : s.c.toNat < s.params.maxCount) :
    (s.c + 1).toNat = s.c.toNat + 1 := by
  have := params_bounds hw
  rw [BitVec.toNat_add]
  exact Nat.mod_eq_of_lt (show s.c.toNat + 1 < 2 ^ 16 by omega)

theorem settledNow_count_le (h : BlockInv s) (hl : s.c.toNat < s.params.maxCount) :
    s.settledNow ≤ ({ s with c := s.c + 1 } : State).settledNow := by
  simp only [State.settledNow, State.owedWraps, count_toNat h.paramsLegal hl]
  omega

theorem owedWraps_wrap (hp : s.ovfPend = false) : s.wrap.owedWraps = s.owedWraps + 1 := by
  simp only [State.owedWraps, hp, Bool.toNat_false, Nat.zero_add]
  exact Nat.add_comm ..

/-- A wrap takes a full counter, which is at most a quantum, and owes a quantum for it. -/
theorem settledNow_wrap_le (h : BlockInv s) (hp : s.ovfPend = false) : s.settledNow ≤ s.wrap.settledNow := by
  have hc := h.counterInRange
  have hw := params_bounds h.paramsLegal
  simp only [State.settledNow, owedWraps_wrap hp, State.wrap_e, State.wrap_params, Nat.mul_add_one]
  omega

theorem settledNow_dispatchOvf (hn : s.inService = .none) (hp : s.ovfPend = true) :
    (dispatchOvf s).settledNow = s.settledNow := by
  simp [State.settledNow, State.owedWraps, dispatchOvf, hn, hp]

theorem settledNow_addQuantum (h : BlockInv s) (hs : s.inService = .ovf) (hl : s.e.toNat < s.params.satLimit) :
    ({ s with e := s.e + BitVec.ofNat 32 s.params.quantum, inService := .none } : State).settledNow =
      s.settledNow := by
  simp [State.settledNow, State.owedWraps, hs, addQuantum_toNat h.paramsLegal hl, Nat.mul_add]
  omega

/-- A service other than the overflow's owes nothing. -/
theorem settledNow_enterService {svc : Service} (hold : s.inService ≠ .ovf) (hnew : svc ≠ .ovf) :
    (s.enterService svc).settledNow = s.settledNow := by
  simp [State.settledNow, State.owedWraps, hold, hnew]

/-- A step that does not clear the clock, to a state on track, starts on track and does not decrease the settled
reading: faults are kept, the halt is left by a reset only, and each owed wrap brings its quantum. -/
theorem onTrack_of_step (h : BlockInv s) (hq : clearsClock s = false) (hs : step s = .next t) (ht : OnTrack t) :
    OnTrack s ∧ s.settledNow ≤ t.settledNow := by
  obtain ⟨hf, hh⟩ := ht
  obtain ⟨a, ha, hc⟩ := step_agentCase hs
  have hp : BlockInv s.passTurn := { h with }
  have hclear : clearsClock s ≠ true := by simp [hq]
  change OnTrack s ∧ s.passTurn.settledNow ≤ t.settledNow
  cases hc with
  | illegal | unconfigured | wrapLost | edgeLost => exact absurd hf (insertRecord_ne_nil _ _)
  | cmdStop T dst hn hst hd => exact absurd (clearsClock_of_command ha hn hst (.inl hd)) hclear
  | cmdTrig T dst hn hst hd hen => exact absurd (clearsClock_of_command ha hn hst (.inr ⟨hd, hen⟩)) hclear
  | endEdge hsvc harm => exact absurd (by simpa [clearsClock, ha] using And.intro hsvc harm) hclear
  | por => exact absurd (by simp [clearsClock, ha]) hclear
  | wdt hsvc => exact absurd (by simpa [clearsClock, ha] using hsvc) hclear
  | saturate => exact absurd rfl hh
  | count _ hl => exact ⟨⟨hf, hh⟩, settledNow_count_le hp hl⟩
  | wrap _ _ hpend => exact ⟨⟨hf, hh⟩, settledNow_wrap_le hp (hpend.resolve_right hh)⟩
  | dispatchOvf _ hn hpend =>
    exact ⟨⟨hf, ne_of_eq_of_ne hn nofun⟩, (settledNow_dispatchOvf hn hpend).ge⟩
  | addQuantum hsvc hl => exact ⟨⟨hf, ne_of_eq_of_ne hsvc nofun⟩, (settledNow_addQuantum hp hsvc hl).ge⟩
  | dispatchEdge _ hn =>
    exact ⟨⟨hf, ne_of_eq_of_ne hn nofun⟩, (settledNow_enterService (svc := .edge) (ne_of_eq_of_ne hn nofun) nofun).ge⟩
  | startEdge hsvc =>
    exact ⟨⟨hf, ne_of_eq_of_ne hsvc nofun⟩, (settledNow_enterService (svc := .none) (ne_of_eq_of_ne hsvc nofun) nofun).ge⟩
  | _ => exact ⟨⟨hf, hh⟩, Nat.le_refl _⟩

/-- A quiet run of one step more is a quiet step and a quiet run. -/
theorem quiet_succ {n : Nat} (h : quiet (n + 1) s = true) :
    ∃ u, clearsClock s = false ∧ step s = .next u ∧ quiet n u = true := by
  simp only [quiet, Bool.and_eq_true, Bool.not_eq_true'] at h
  obtain ⟨hq, hrest⟩ := h
  cases hs : step s with
  | next u => exact ⟨u, hq, rfl, by simpa [hs] using hrest⟩
  | fault | refused => simp [hs] at hrest

/-- No turn changes the parameters (00_scope.md section 4, log 7). -/
theorem TurnCase.params_eq {a : AgentStep} (hc : TurnCase s a t) : t.params = s.params := by
  cases hc <;> rfl

/-- Along a quiet run to a state on track the settled reading does not decrease, and the invariants and the parameters
are kept. -/
theorem onTrack_of_quiet_run {n : Nat} (h : BlockInv s) (hq : quiet n s = true) (hr : runSteps n s = .next t)
    (ht : OnTrack t) : OnTrack s ∧ s.settledNow ≤ t.settledNow ∧ BlockInv t ∧ t.params = s.params := by
  induction n generalizing s with
  | zero =>
    cases hr
    exact ⟨ht, Nat.le_refl _, h, rfl⟩
  | succ n ih =>
    obtain ⟨u, hclear, hs, hqu⟩ := quiet_succ hq
    rw [runSteps_succ_of_next hs] at hr
    obtain ⟨hu, hle, hinv, hpar⟩ := ih (blockInvariantsAreKept s u h hs) hqu hr
    obtain ⟨htrack, hstep⟩ := onTrack_of_step h hclear hs hu
    exact ⟨htrack, Nat.le_trans hstep hle, hinv, hpar.trans (step_turnCase hs).params_eq⟩

end

/-- Settles O51: `NOW` is the settled reading at both ends, and the settled reading does not decrease. -/
theorem nowIsMonotone : Obligations.NowIsMonotone := by
  intro n s t h hfits hq hr hsn hsp htn htp htf
  obtain ⟨-, hle, hinv, hpar⟩ := onTrack_of_quiet_run h hq hr ⟨htf, ne_of_eq_of_ne htn nofun⟩
  rwa [settledNow_eq_now h hfits hsn hsp, settledNow_eq_now hinv (hpar ▸ hfits) htn htp] at hle

end Sys2Proof.Machine
end

section
/-! PROOFS. The clock with every wrap serviced at once: the window between a wrap and its body (40_clock.md R105) and the
drift law (R114, R115). -/

namespace Sys2Proof.Machine

section
variable {s : State} {a : AgentStep} {rest : List AgentStep}

/-! ### The turns of the counter and of the overflow service -/

/-- A step along a placed schedule takes the turn placed first. -/
theorem step_of_turnEffect {t : State} (hr : s.refused = false) (hs : s.schedule = a :: rest)
    (ht : turnEffect a { s with schedule := rest, turn := s.turn + 1 } = t) : step s = .next t := by
  rw [step_of_schedule hr hs, ht]

/-- The run of three steps: a tick, a dispatch and a body. -/
theorem runSteps_three {t u v : State} (hs : step s = .next t) (ht : step t = .next u) (hu : step u = .next v) :
    runSteps 3 s = .next v := by
  rw [runSteps_succ_of_next hs, runSteps_succ_of_next ht, runSteps_one, hu]

theorem turnEffect_of_not_enabled (h : enabled a s = false) : turnEffect a s = s := by
  simp [turnEffect, h]

/-- 42_events.md R160. -/
theorem turnEffect_tick_count (hrun : s.run = true) (hl : s.c.toNat < s.params.maxCount) :
    turnEffect .tick s = { s with c := s.c + 1 } := by
  simp [turnEffect, enabled, tick, State.atTop, hrun, Nat.not_le.mpr hl]

/-- 42_events.md R161, no wrap being pending. -/
theorem turnEffect_tick_wrap (hrun : s.run = true) (htop : s.params.maxCount ≤ s.c.toNat) (hp : s.ovfPend = false) :
    turnEffect .tick s = s.wrap := by
  simp [turnEffect, enabled, tick, State.atTop, hrun, htop, hp]

/-- 60_exceptions.md R205. -/
theorem turnEffect_dispatchOvf (hg : s.gie = true) (hn : s.inService = .none) (hen : s.ovfEn = true)
    (hp : s.ovfPend = true) : turnEffect .dispatchOvf s = dispatchOvf s := by
  simp [turnEffect, enabled, State.mayDispatch, State.irqOvf, hg, hn, hen, hp]

/-- 60_exceptions.md R207, short of saturation. -/
theorem turnEffect_bodyOvf (hs : s.inService = .ovf) (hl : s.e.toNat < s.params.satLimit) :
    turnEffect .bodyOvf s = { s with e := s.e + BitVec.ofNat 32 s.params.quantum, inService := .none } := by
  simp [turnEffect, enabled, bodyOvf, hs, Nat.not_le.mpr hl, State.returnToHost]

/-! ### A tick with its wrap serviced -/

/-- The clock runs, the overflow service is configured and may be dispatched, and no wrap is pending. -/
structure Serviceable (s : State) : Prop where
  notRefused : s.refused = false
  running : s.run = true
  configured : s.ovfEn = true
  gateOpen : s.gie = true
  noService : s.inService = .none
  noWrap : s.ovfPend = false

/-- Below the top of the range the tick counts, and there is nothing to service. -/
theorem runSteps_tick_count (h : Serviceable s) (hl : s.c.toNat < s.params.maxCount)
    (hs : s.schedule = .tick :: .dispatchOvf :: .bodyOvf :: rest) :
    runSteps 3 s = .next { s with c := s.c + 1, schedule := rest, turn := s.turn + 3 } :=
  runSteps_three (step_of_turnEffect h.notRefused hs (turnEffect_tick_count h.running hl))
    (step_of_turnEffect h.notRefused rfl (turnEffect_of_not_enabled (by simp [enabled, State.irqOvf, h.noWrap])))
    (step_of_turnEffect h.notRefused rfl (turnEffect_of_not_enabled (by simp [enabled, h.noService])))

/-- At the top of the range the tick wraps (42_events.md R161). -/
theorem step_tick_wrap (h : Serviceable s) (htop : s.params.maxCount ≤ s.c.toNat) (hs : s.schedule = .tick :: rest) :
    step s = .next ({ s with schedule := rest, turn := s.turn + 1 } : State).wrap :=
  step_of_turnEffect h.notRefused hs (turnEffect_tick_wrap h.running htop h.noWrap)

/-- At the top of the range the tick wraps, and the service adds the quantum (42_events.md R161, 60_exceptions.md R207). -/
theorem runSteps_tick_wrap (h : Serviceable s) (htop : s.params.maxCount ≤ s.c.toNat)
    (hl : s.e.toNat < s.params.satLimit) (hs : s.schedule = .tick :: .dispatchOvf :: .bodyOvf :: rest) :
    runSteps 3 s =
      .next { s with
        c := 0, e := s.e + BitVec.ofNat 32 s.params.quantum, ovfPend := false, inService := .none
        schedule := rest, turn := s.turn + 3 } :=
  runSteps_three (step_tick_wrap h htop hs)
    (step_of_turnEffect h.notRefused rfl (turnEffect_dispatchOvf h.gateOpen h.noService h.configured rfl))
    (step_of_turnEffect h.notRefused rfl (turnEffect_bodyOvf rfl hl))

end

/-- Settles O48: after the wrap `C` is 0 and `E` is the old one, after the body `E` is one quantum more. -/
theorem pendingWindowLagsByAQuantum : Obligations.PendingWindowLagsByAQuantum := by
  intro s rest h hr hrun hg hn hp htop hl hs
  have hsv : Serviceable s := ⟨hr, hrun, h.runConfigured hrun, hg, hn, hp⟩
  have he := addQuantum_toNat h.paramsLegal hl
  refine ⟨_, _, step_tick_wrap hsv htop.ge hs, ?_, rfl, runSteps_tick_wrap hsv htop.ge hl hs, ?_, rfl, rfl⟩
  · simp [State.now]
  · rw [← he]
    simp [State.now]

/-! ### Many ticks -/

/-- `s` with the clock as `n` serviced ticks from zero leave it, `turns` turns on. -/
def State.afterTicks (s : State) (n : Nat) (rest : List AgentStep) (turns : Nat) : State :=
  { s with
    c := BitVec.ofNat 16 (n % 2 ^ s.params.wHw)
    e := BitVec.ofNat 32 (s.params.quantum * (n / 2 ^ s.params.wHw))
    schedule := rest
    turn := s.turn + turns }

section
variable {s : State} {rest : List AgentStep}

theorem afterTicks_c_toNat (hw : s.params.wf = true) (n : Nat) (turns : Nat) :
    (s.afterTicks n rest turns).c.toNat = n % 2 ^ s.params.wHw := by
  obtain ⟨hlo, hhi, -, -⟩ := params_bounds hw
  have hlt : n % 2 ^ s.params.wHw < 2 ^ s.params.wHw := Nat.mod_lt _ (by omega)
  exact Nat.mod_eq_of_lt (by omega)

theorem afterTicks_e_toNat {n : Nat} (hsat : s.params.quantum * (n / 2 ^ s.params.wHw) < maxWord) (turns : Nat) :
    (s.afterTicks n rest turns).e.toNat = s.params.quantum * (n / 2 ^ s.params.wHw) := by
  simp only [maxWord] at hsat
  exact Nat.mod_eq_of_lt (by omega)

/-- One more tick below the top of the range leaves the number of wraps. -/
theorem divMod_succ_of_lt {n m : Nat} (h : n % m + 1 < m) : (n + 1) / m = n / m ∧ (n + 1) % m = n % m + 1 := by
  have hn := Nat.mod_add_div n m
  exact (Nat.div_mod_unique (by omega)).mpr ⟨by omega, h⟩

/-- One more tick at the top of the range is one more wrap. -/
theorem divMod_succ_of_eq {n m : Nat} (h : n % m + 1 = m) : (n + 1) / m = n / m + 1 ∧ (n + 1) % m = 0 := by
  have hn := Nat.mod_add_div n m
  exact (Nat.div_mod_unique (by omega)).mpr ⟨by rw [Nat.mul_add_one]; omega, by omega⟩

/-- One more serviced tick: it counts, or it wraps and brings a quantum. -/
theorem runSteps_afterTicks_succ (hw : s.params.wf = true) (h : Serviceable s) {n : Nat}
    (hsat : s.params.quantum * ((n + 1) / 2 ^ s.params.wHw) < maxWord) (turns : Nat) :
    runSteps 3 (s.afterTicks n (.tick :: .dispatchOvf :: .bodyOvf :: rest) turns) =
      .next (s.afterTicks (n + 1) rest (turns + 3)) := by
  obtain ⟨hlo, -, hmax, -⟩ := params_bounds hw
  have hsv : Serviceable (s.afterTicks n (.tick :: .dispatchOvf :: .bodyOvf :: rest) turns) := { h with }
  have hc := afterTicks_c_toNat (rest := .tick :: .dispatchOvf :: .bodyOvf :: rest) hw n turns
  have hlt : n % 2 ^ s.params.wHw < 2 ^ s.params.wHw := Nat.mod_lt _ (by omega)
  obtain htop | htop := (Nat.succ_le_of_lt hlt).lt_or_eq
  · obtain ⟨hdiv, hmod⟩ := divMod_succ_of_lt htop
    have hbelow : n % 2 ^ s.params.wHw < s.params.maxCount := by omega
    rw [runSteps_tick_count hsv (hc ▸ hbelow) rfl]
    simp only [State.afterTicks, hdiv, hmod, BitVec.ofNat_add]
    rfl
  · obtain ⟨hdiv, hmod⟩ := divMod_succ_of_eq htop
    rw [hdiv, Nat.mul_add_one] at hsat
    have he := afterTicks_e_toNat (s := s) (rest := .tick :: .dispatchOvf :: .bodyOvf :: rest) (n := n) (by omega) turns
    have hfull : s.params.maxCount ≤ n % 2 ^ s.params.wHw := by omega
    have hroom : s.params.quantum * (n / 2 ^ s.params.wHw) < s.params.satLimit := by
      rw [Params.satLimit]
      omega
    rw [runSteps_tick_wrap hsv (hc ▸ hfull) (he ▸ hroom) rfl]
    simp only [State.afterTicks, hdiv, hmod, Nat.mul_add_one, BitVec.ofNat_add, h.noWrap, h.noService]
    rfl

/-- `k` more serviced ticks, short of saturation. -/
theorem runSteps_servicedTicks (hw : s.params.wf = true) (h : Serviceable s) {n k : Nat}
    (hsat : s.params.quantum * ((n + k) / 2 ^ s.params.wHw) < maxWord) (turns : Nat) :
    runSteps (3 * k) (s.afterTicks n (servicedTicks k ++ rest) turns) =
      .next (s.afterTicks (n + k) rest (turns + 3 * k)) := by
  induction k generalizing n turns with
  | zero => rfl
  | succ k ih =>
    rw [← Nat.add_assoc, Nat.add_right_comm] at hsat
    have hsat' : s.params.quantum * ((n + 1) / 2 ^ s.params.wHw) < maxWord :=
      Nat.lt_of_le_of_lt (Nat.mul_le_mul_left _ (Nat.div_le_div_right (Nat.le_add_right _ _))) hsat
    rw [Nat.mul_add_one, Nat.add_comm (3 * k) 3, ← Nat.add_assoc, ← Nat.add_assoc, Nat.add_right_comm n]
    exact (runSteps_add_of_next (runSteps_afterTicks_succ hw h hsat' turns) _).trans (ih hsat (turns + 3))

end

/-- Settles O52: `n` serviced ticks from zero; `MAX` leaves room for the counter beside the quanta. -/
theorem nowFollowsTheDriftLaw : Obligations.NowFollowsTheDriftLaw := by
  intro n s rest hw hr hrun hen hg hn hp hc he hsat hs
  have hstart : s.afterTicks 0 (servicedTicks n ++ rest) 0 = s := by
    have hc0 : s.c = 0#16 := hc
    have he0 : s.e = 0#32 := he
    simp only [State.afterTicks, Nat.zero_mod, Nat.zero_div, Nat.mul_zero, Nat.add_zero, ← hc0, ← he0, ← hs]
  have hrunTo := runSteps_servicedTicks (rest := rest) hw ⟨hr, hrun, hen, hg, hn, hp⟩ (n := 0) (k := n)
    (by rwa [Nat.zero_add]) 0
  rw [hstart, Nat.zero_add] at hrunTo
  have htc := afterTicks_c_toNat (s := s) (rest := rest) hw n (0 + 3 * n)
  have hte := afterTicks_e_toNat (s := s) (rest := rest) hsat (0 + 3 * n)
  have hnow := State.now_toNat (s.afterTicks n rest (0 + 3 * n))
  rw [hte, Nat.mul_comm s.params.quantum] at hnow
  refine ⟨_, hrunTo, htc, hte, hp, hn, rfl, hnow, fun h8 hq => ?_, fun h8 hq => ?_⟩
  all_goals
    rw [hnow, htc, h8, hq]
    rw [h8, hq, maxWord] at hsat
    omega

end Sys2Proof.Machine
end

section
/-! PROOFS. The capture unit (41_capture.md): its transactions (R130 to R133), the serviced edge, the capture sequence
(R134), the third edge (R136) and the writers of the capture fields (R138). -/

namespace Sys2Proof.Machine

/-! ### The transactions -/

/-- Settles O20: the effect of `CMD TRIG` branches on `OVF_EN`. -/
theorem cmdTrigRestartsTheClock : Obligations.CmdTrigRestartsTheClock := by
  refine ⟨decode_encode .cmdTrig, fun s hn => ⟨fun hen => ?_, fun hen => ?_⟩⟩
  · rw [exec_of_none _ hn, execEffect, if_pos hen, List.append_cons s.trace]
    rfl
  · rw [exec_of_none _ hn, execEffect, if_neg (by simp [hen])]
    rfl

/-- Settles O21: the word is the encoding of `CMD CLRDONE`, whose effect is the one write. -/
theorem cmdClrDoneClearsDone : Obligations.CmdClrDoneClearsDone :=
  ⟨decode_encode .cmdClrDone, fun _ hn => exec_of_none .cmdClrDone hn⟩

/-- Settles O22: `RD CAPS` ends as a read of `CAP_START`. -/
theorem rdCapsReturnsTheStartTime : Obligations.RdCapsReturnsTheStartTime :=
  ⟨fun d => (decode_read_data 0x0C d).trans (decode_encode .rdCapS), rfl,
    fun _ hn => ⟨_, exec_of_none _ hn, completeRead_leaves ..⟩⟩

/-- Settles O23: the effect of `RD CAPW` branches on `DONE`, and in both branches it ends as a read. -/
theorem rdCapwReturnsTheWidthOrADraw : Obligations.RdCapwReturnsTheWidthOrADraw := by
  refine ⟨fun d => (decode_read_data 0x10 d).trans (decode_encode .rdCapW),
    fun s hn => ⟨fun hdone => ?_, fun hdone => ?_⟩⟩
  all_goals rw [exec_of_none _ hn, execEffect]
  · rw [if_pos hdone]
    exact ⟨_, rfl, completeRead_leaves ..⟩
  · rw [if_neg (by simp [hdone])]
    exact ⟨_, rfl, completeRead_leaves _ _ s.nextDraw⟩

/-! ### The writers of the capture fields -/

/-- Settles O46: of all that a step can do only the edge body's two branches, the resets and the two commands write a
capture field. -/
theorem captureFieldsHaveNoOtherWriter : Obligations.CaptureFieldsHaveNoOtherWriter := by
  intro s t hs
  obtain ⟨a, ha, hc⟩ := step_agentCase hs
  cases hc with
  | startEdge hsvc | endEdge hsvc => exact .inr (.inl ⟨ha, hsvc⟩)
  | por | wdt => exact .inr (.inr (.inl ⟨_, rfl⟩))
  | cmdTrig T dst _ hst hd => exact .inr (.inr (.inr ⟨ha, T, dst, hst, rfl, rfl, .inl ⟨hd, rfl, rfl⟩⟩))
  | cmdClrDone T dst _ hst hd => exact .inr (.inr (.inr ⟨ha, T, dst, hst, rfl, rfl, .inr ⟨hd, rfl, rfl⟩⟩))
  | _ => exact .inl ⟨rfl, rfl, rfl, rfl⟩

/-! ### A serviced edge -/

theorem runSteps_trans {m n : Nat} {s t u : State} (hst : runSteps m s = .next t) (htu : runSteps n t = .next u) :
    runSteps (m + n) s = .next u :=
  (runSteps_add_of_next hst n).trans htu

/-- The fault set after an edge: with `EDGE_LOST` where the previous edge is pending and the block is not halted
(42_events.md R163). -/
def State.faultsAfterEdge (s : State) : List FaultRecord :=
  if s.edgePend = true ∧ s.inService ≠ .halt then insertRecord ⟨.edgeLost, .edgeIn⟩ s.faults else s.faults

theorem faultsAfterEdge_of_noEdge {s : State} (h : s.edgePend = false) : s.faultsAfterEdge = s.faults := by
  simp [State.faultsAfterEdge, h]

section
variable {s : State} {rest : List AgentStep}

/-- 42_events.md R163. -/
theorem turnEffect_edgeIn (s : State) :
    turnEffect .edgeIn s = { s with edgePend := true, faults := s.faultsAfterEdge } := by
  have heff : turnEffect .edgeIn s = edgeIn s := rfl
  rw [heff, edgeIn, State.faultsAfterEdge]
  split <;> rfl

/-- 60_exceptions.md R205, no wrap being pending. -/
theorem turnEffect_dispatchEdge (hg : s.gie = true) (hn : s.inService = .none) (hp : s.ovfPend = false)
    (he : s.edgePend = true) : turnEffect .dispatchEdge s = dispatchEdge s := by
  simp [turnEffect, enabled, State.mayDispatch, State.irqOvf, State.irqEdge, hg, hn, hp, he]

/-- What the start edge's body writes: the timestamp, and the end edge armed (60_exceptions.md R208). -/
def State.startedAt (s : State) (time : Word) : State := { s with capStart := time, armedEnd := true }

/-- The start edge's body (60_exceptions.md R208). -/
theorem turnEffect_bodyEdge_start (hs : s.inService = .edge) (ha : s.armedEnd = false) :
    turnEffect .bodyEdge s = (s.startedAt s.now).returnToHost := by
  simp [turnEffect, enabled, bodyEdge, hs, ha, State.startedAt]

/-- What the end edge's body leaves (60_exceptions.md R208). -/
def State.afterEndEdge (s : State) : State :=
  ({ s with capWidth := s.now - s.capStart, done := true } : State).stopClock.returnToHost

/-- The end edge's body (60_exceptions.md R208). -/
theorem turnEffect_bodyEdge_end (hs : s.inService = .edge) (ha : s.armedEnd = true) :
    turnEffect .bodyEdge s = s.afterEndEdge := by
  simp [turnEffect, enabled, bodyEdge, hs, ha, State.afterEndEdge]

/-- An edge that is dispatched at once is followed by its body. -/
theorem runSteps_servicedEdge {t : State} (hr : s.refused = false) (hg : s.gie = true) (hn : s.inService = .none)
    (hp : s.ovfPend = false) (hs : s.schedule = servicedEdge ++ rest)
    (ht : turnEffect .bodyEdge
      { s with
        edgePend := false, faults := s.faultsAfterEdge, inService := .edge
        schedule := rest, turn := s.turn + 3 } = t) :
    runSteps 3 s = .next t :=
  runSteps_three (step_of_turnEffect hr hs (turnEffect_edgeIn _))
    (step_of_turnEffect hr rfl (turnEffect_dispatchEdge hg hn hp rfl))
    (step_of_turnEffect hr rfl ht)

theorem Serviceable.startedAt (h : Serviceable s) (time : Word) : Serviceable (s.startedAt time) := { h with }

/-- The start edge, serviced at once, no edge being pending. -/
theorem runSteps_startEdge (h : Serviceable s) (he : s.edgePend = false) (ha : s.armedEnd = false)
    (hs : s.schedule = servicedEdge ++ rest) :
    runSteps 3 s = .next { s.startedAt s.now with schedule := rest, turn := s.turn + 3 } := by
  rw [runSteps_servicedEdge h.notRefused h.gateOpen h.noService h.noWrap hs (turnEffect_bodyEdge_start rfl ha),
    faultsAfterEdge_of_noEdge he, State.returnToHost, ← he, ← h.noService]
  rfl

/-- The end edge, serviced at once, no edge being pending. -/
theorem runSteps_endEdge (h : Serviceable s) (he : s.edgePend = false) (ha : s.armedEnd = true)
    (hs : s.schedule = servicedEdge ++ rest) :
    runSteps 3 s = .next (State.afterEndEdge { s with schedule := rest, turn := s.turn + 3 }) := by
  rw [runSteps_servicedEdge h.notRefused h.gateOpen h.noService h.noWrap hs (turnEffect_bodyEdge_end rfl ha),
    faultsAfterEdge_of_noEdge he, ← he]
  rfl

end

/-! ### The third edge -/

/-- Settles O34: the end edge leaves a stopped clock with the end edge armed, so one more serviced edge is an end edge
at `NOW = 0`. -/
theorem thirdEdgeGivesTheGarbageWidth : Obligations.ThirdEdgeGivesTheGarbageWidth := by
  intro s rest hr hg hsvc ha hs
  have hend : step s = .next _ := step_of_turnEffect hr hs (turnEffect_bodyEdge_end hsvc ha)
  have hthird := runSteps_servicedEdge (rest := rest)
    (s := State.afterEndEdge { s with schedule := servicedEdge ++ rest, turn := s.turn + 1 })
    hr hg rfl rfl rfl (turnEffect_bodyEdge_end rfl ha)
  refine ⟨_, (runSteps_succ_of_next hend).trans hthird, ?_, rfl, rfl, ha, rfl, rfl, rfl⟩
  have hneg : BitVec.ofInt 32 (-(s.capStart.toNat : Int)) = -s.capStart := by simp [BitVec.ofInt_neg]
  rw [hneg, ← BitVec.zero_sub]
  rfl

/-! ### `NOW` after serviced ticks -/

/-- `NOW` after `n` ticks from zero, each wrap serviced at once: a wrap loses what `QUANTUM` lacks of its
ticks (40_clock.md R114). -/
def nowAfter (p : Params) (n : Nat) : Nat := n - n / 2 ^ p.wHw * (2 ^ p.wHw - p.quantum)

/-- 10_state.md R41b. -/
theorem nowFits_iff {p : Params} :
    p.nowFits = true ↔ p.wHw = 8 ∧ (p.quantum = 255 ∨ p.quantum = 256) ∨ p.wHw = 16 ∧ p.quantum = 65535 := by
  simp [Params.nowFits]

section
variable {p : Params} {a b n : Nat}

theorem nowAfter_eq (hf : p.nowFits = true) : p.quantum * (n / 2 ^ p.wHw) + n % 2 ^ p.wHw = nowAfter p n := by
  rw [nowAfter]
  obtain ⟨hw, hq | hq⟩ | ⟨hw, hq⟩ := nowFits_iff.mp hf
  all_goals rw [hw, hq]; omega

/-- A run short of saturation was so before. -/
theorem quanta_lt_of_add_lt (hsat : p.quantum * ((a + b) / 2 ^ p.wHw) < maxWord) :
    p.quantum * (a / 2 ^ p.wHw) < maxWord :=
  Nat.lt_of_le_of_lt (Nat.mul_le_mul_left _ (Nat.div_le_div_right (Nat.le_add_right a b))) hsat

/-- Short of saturation `NOW` fits a word (10_state.md R41b). -/
theorem nowAfter_toNat (hf : p.nowFits = true) (hsat : p.quantum * (n / 2 ^ p.wHw) < maxWord) :
    (BitVec.ofNat 32 (nowAfter p n)).toNat = nowAfter p n := by
  refine Nat.mod_eq_of_lt ?_
  rw [maxWord] at hsat
  rw [nowAfter]
  obtain ⟨hw, hq | hq⟩ | ⟨hw, hq⟩ := nowFits_iff.mp hf
  all_goals rw [hw, hq] at hsat ⊢; omega

/-- A wrap loses no more ticks than it stands for, so `NOW` does not decrease. -/
theorem nowAfter_le_add (hf : p.nowFits = true) (a b : Nat) : nowAfter p a ≤ nowAfter p (a + b) := by
  simp only [nowAfter]
  obtain ⟨hw, hq | hq⟩ | ⟨hw, hq⟩ := nowFits_iff.mp hf
  all_goals rw [hw, hq]; omega

/-- The width of a pulse is computed without a wrap. -/
theorem nowAfter_sub_toNat (hf : p.nowFits = true) (hsat : p.quantum * ((a + b) / 2 ^ p.wHw) < maxWord) :
    (BitVec.ofNat 32 (nowAfter p (a + b)) - BitVec.ofNat 32 (nowAfter p a)).toNat +
      (BitVec.ofNat 32 (nowAfter p a)).toNat = nowAfter p (a + b) := by
  have hle := nowAfter_le_add hf a b
  have hstart := nowAfter_toNat hf (quanta_lt_of_add_lt hsat)
  have hend := nowAfter_toNat hf hsat
  rw [BitVec.toNat_sub_of_le (by rwa [BitVec.le_def, hstart, hend]), hstart, hend]
  exact Nat.sub_add_cancel hle

end

/-! ### The capture sequence -/

section
variable {s : State} {rest : List AgentStep} {a b n : Nat}

theorem afterTicks_now (hw : s.params.wf = true) (hf : s.params.nowFits = true)
    (hsat : s.params.quantum * (n / 2 ^ s.params.wHw) < maxWord) (turns : Nat) :
    (s.afterTicks n rest turns).now = BitVec.ofNat 32 (nowAfter s.params n) := by
  rw [State.now_eq_ofNat, afterTicks_e_toNat hsat, afterTicks_c_toNat hw, nowAfter_eq hf]

theorem afterEndEdge_capWidth (hw : s.params.wf = true) (hf : s.params.nowFits = true)
    (hsat : s.params.quantum * (n / 2 ^ s.params.wHw) < maxWord) (turns : Nat) :
    (s.afterTicks n rest turns).afterEndEdge.capWidth = BitVec.ofNat 32 (nowAfter s.params n) - s.capStart :=
  congrArg (· - s.capStart) (afterTicks_now hw hf hsat turns)

/-- `n` serviced ticks from zero. -/
theorem runSteps_ticksFromZero (hw : s.params.wf = true) (h : Serviceable s) (hc : s.c = 0#16) (he : s.e = 0#32)
    (hsat : s.params.quantum * (n / 2 ^ s.params.wHw) < maxWord) (hs : s.schedule = servicedTicks n ++ rest) :
    runSteps (3 * n) s = .next (s.afterTicks n rest (3 * n)) := by
  have hstart : s.afterTicks 0 (servicedTicks n ++ rest) 0 = s := by
    simp only [State.afterTicks, Nat.zero_mod, Nat.zero_div, Nat.mul_zero, Nat.add_zero, ← hc, ← he, ← hs]
  have hrun := runSteps_servicedTicks (rest := rest) hw h (n := 0) (k := n) (by rwa [Nat.zero_add]) 0
  rwa [hstart, Nat.zero_add, Nat.zero_add] at hrun

/-- `s` with the block armed for a capture by `CMD CLRDONE` and `CMD TRIG` (41_capture.md R130, R131). -/
def State.armedForCapture (s : State) (rest : List AgentStep) : State :=
  { s with
    done := false, trigOut := false, e := 0, c := 0, ovfPend := false, run := true, armedEnd := false
    trace := s.trace ++ [.bus .cmdClrDone none] ++ [.trigPulse, .bus .cmdTrig none], pc := s.pc + 2
    schedule := rest, turn := s.turn + 2 }

/-- The host's step at a word that decodes, from what its transaction answers. -/
theorem step_of_exec {t : State} {T : Transaction} {dst : Option Nat} {i : Instr} (hr : s.refused = false)
    (hs : s.schedule = .host :: rest) (hst : s.stmt = some (.bus T dst)) (hd : decode T = .ok i)
    (hx : exec i { s with schedule := rest, turn := s.turn + 1 } = .next t) : step s = .next t :=
  (stepRunsTheDecodedTransaction s T dst i rest hr hs hst hd).trans hx

/-- `CMD CLRDONE` and `CMD TRIG`, one after the other. -/
theorem runSteps_armForCapture {d₁ d₂ : Option Nat} (hr : s.refused = false) (hen : s.ovfEn = true)
    (hn : s.inService = .none) (h₁ : s.stmt = some (.bus 0x50000000005 d₁))
    (h₂ : s.program[s.pc + 1]? = some (.bus 0x50000000004 d₂)) (hs : s.schedule = .host :: .host :: rest) :
    runSteps 2 s = .next (s.armedForCapture rest) := by
  obtain ⟨hclr, hexecClr⟩ := cmdClrDoneClearsDone
  obtain ⟨htrig, hexecTrig⟩ := cmdTrigRestartsTheClock
  rw [runSteps_succ_of_next (step_of_exec hr hs h₁ hclr (hexecClr _ hn)), runSteps_one]
  refine step_of_exec (rest := rest) hr rfl h₂ htrig ((hexecTrig _ ?_).1 ?_)
  · exact hn
  · exact hen

/-- From the armed block on, `a` ticks and the start edge (41_capture.md R134). -/
theorem runSteps_ticks_startEdge (h : Serviceable s) (hw : s.params.wf = true) (hf : s.params.nowFits = true)
    (hc : s.c = 0#16) (he : s.e = 0#32) (hunarmed : s.armedEnd = false) (hedge : s.edgePend = false)
    (hsat : s.params.quantum * (a / 2 ^ s.params.wHw) < maxWord)
    (hs : s.schedule = servicedTicks a ++ (servicedEdge ++ rest)) :
    runSteps (3 * a + 3) s =
      .next ((s.startedAt (BitVec.ofNat 32 (nowAfter s.params a))).afterTicks a rest (3 * a + 3)) := by
  have hstart := runSteps_startEdge (s := s.afterTicks a _ (3 * a)) (rest := rest) { h with } hedge hunarmed rfl
  rw [afterTicks_now hw hf hsat] at hstart
  exact runSteps_trans (runSteps_ticksFromZero hw h hc he hsat hs) hstart

/-- From the start edge on, `b` ticks and the end edge (41_capture.md R134). -/
theorem runSteps_ticks_endEdge (h : Serviceable s) (hw : s.params.wf = true) (harmed : s.armedEnd = true)
    (hedge : s.edgePend = false) (hsat : s.params.quantum * ((a + b) / 2 ^ s.params.wHw) < maxWord) (turns : Nat) :
    runSteps (3 * b + 3) (s.afterTicks a (servicedTicks b ++ (servicedEdge ++ rest)) turns) =
      .next (s.afterTicks (a + b) rest (turns + 3 * b + 3)).afterEndEdge :=
  runSteps_trans (runSteps_servicedTicks hw h hsat turns)
    (runSteps_endEdge (s := s.afterTicks (a + b) _ (turns + 3 * b)) { h with } hedge harmed rfl)

end

/-- Settles O53: the two commands arm a block with the clock at zero, the start edge stands after `a` serviced ticks and
the end edge after `a + b`. -/
theorem captureMeasuresThePulse : Obligations.CaptureMeasuresThePulse := by
  intro a b s d₁ d₂ rest hw hf hr hen hg he hn hfaults h₁ h₂ hsat hs
  have hsat₁ := quanta_lt_of_add_lt hsat
  have harm := runSteps_armForCapture hr hen hn h₁ h₂ hs
  have hsv (turns : List AgentStep) : Serviceable (s.armedForCapture turns) := ⟨hr, rfl, hen, hg, hn, rfl⟩
  have hstart := runSteps_trans harm (runSteps_ticks_startEdge (hsv _) hw hf rfl rfl rfl he hsat₁ rfl)
  have hrun := runSteps_trans hstart (runSteps_ticks_endEdge ((hsv _).startedAt _) hw rfl he hsat _)
  simp only [← Nat.add_assoc] at hrun
  refine ⟨_, hrun, nowAfter_toNat hf hsat₁, ?_, rfl, rfl, rfl, rfl, hfaults, rfl⟩
  rw [afterEndEdge_capWidth (s := (s.armedForCapture _).startedAt _) hw hf hsat]
  exact nowAfter_sub_toNat hf hsat

end Sys2Proof.Machine
end

section
/-! PROOFS. The steps of 42_events.md that are no bus transactions: the counter (R160, R161), the echo input (R163), the
host's gate (R166, R167) and the watchdog's reset of a halted block (R169). -/

namespace Sys2Proof.Machine

section
variable {s t : State}

/-! ### The halt ends in a reset -/

/-- No turn but a reset leaves the halt, and none refuses in it: the host waits, no service is dispatched, and a tick
and an edge are only latched (10_state.md R35, 60_exceptions.md R221). -/
theorem TurnCase.of_halted {a : AgentStep} (hc : TurnCase s a t) (hs : s.inService = .halt) :
    (∃ k, t = s.resetBy k) ∨ (t.inService = .halt ∧ t.refused = s.refused) := by
  cases hc with
  | por | wdt => exact .inl ⟨_, rfl⟩
  | idle | count | wrap | edge => exact .inr ⟨hs, rfl⟩
  | wrapLost _ _ _ hne | edgeLost _ hne => exact absurd hs hne
  | _ => exact absurd ‹s.inService = _› (by simp [hs])

/-- Halted and not refused: the block takes steps, of which only a reset frees it. -/
structure Halted (s : State) : Prop where
  inHalt : s.inService = .halt
  notRefused : s.refused = false

/-- The block and the host's gate are as at launch (70_reset_and_hazards.md R250, 10_state.md R36). -/
structure AtReset (s : State) : Prop where
  block : s.block = Block.afterReset
  gateClosed : s.gie = false

theorem atReset_resetBy (s : State) (k : ResetKind) : AtReset (s.resetBy k) := ⟨rfl, rfl⟩

/-- A halted block takes its next step, and is reset by it or stays halted. -/
theorem step_of_halted (h : Halted s) : ∃ t, step s = .next t ∧ (AtReset t ∨ Halted t) := by
  refine ⟨turnEffect s.nextAgent s.passTurn, by simp [step_eq, h.notRefused], ?_⟩
  obtain ⟨k, hk⟩ | ⟨hsvc, hr⟩ := (turnCase s.nextAgent s.passTurn).of_halted h.inHalt
  · exact .inl (hk ▸ atReset_resetBy _ k)
  · exact .inr ⟨hsvc, hr.trans h.notRefused⟩

/-- A halted block is reset in the step that takes the watchdog's turn (42_events.md R169). -/
theorem step_wdtReset_of_halted (h : Halted s) (ha : s.nextAgent = .wdtReset) :
    step s = .next (s.passTurn.resetBy .wdt) := by
  simp [step_eq, h.notRefused, ha, turnEffect, enabled, h.inHalt, wdtReset]

/-- A run goes on by the step of the state that it has come to. -/
theorem runSteps_snoc {n : Nat} {u : State} (hrun : runSteps n s = .next t) (hstep : step t = .next u) :
    runSteps (n + 1) s = .next u :=
  runSteps_trans hrun ((runSteps_one t).trans hstep)

/-- A run from a halted block that meets no reset is halted throughout. -/
theorem runSteps_of_halted (h : Halted s) (hno : ∀ n t, runSteps n s = .next t → ¬ AtReset t) (n : Nat) :
    ∃ t, runSteps n s = .next t ∧ Halted t := by
  induction n with
  | zero => exact ⟨s, rfl, h⟩
  | succ n ih =>
    obtain ⟨t, hrun, ht⟩ := ih
    obtain ⟨u, hstep, hu⟩ := step_of_halted ht
    have hrun' := runSteps_snoc hrun hstep
    exact ⟨u, hrun', hu.resolve_left (hno _ _ hrun')⟩

end

/-- Settles O55: without a reset the block would stay halted, which enables the watchdog for ever, so that by fairness
its turn would be taken, and that turn is a reset. -/
theorem haltedBlockIsReset : Obligations.HaltedBlockIsReset := by
  intro s hs hr hfair
  by_contra hnever
  have hno : ∀ n t, runSteps n s = .next t → ¬ AtReset t :=
    fun n t hrun h => hnever ⟨n, t, hrun, h.block, h.gateClosed⟩
  have hhalted := runSteps_of_halted ⟨hs, hr⟩ hno
  obtain ⟨m, -, t, hrun, hagent, -⟩ := hfair 0 fun m _ => by
    obtain ⟨t, hrun, ht⟩ := hhalted m
    exact ⟨t, hrun, by simp [anyEnabled, enabled, ht.inHalt]⟩
  obtain ⟨t', hrun', ht⟩ := hhalted m
  cases hrun.symm.trans hrun'
  have hreset := step_wdtReset_of_halted ht (List.mem_singleton.mp hagent)
  exact hno _ _ (runSteps_snoc hrun hreset) (atReset_resetBy _ _)

/-! ### The counter -/

/-- Settles O24: the tick below the top counts by one, without a wrap of the counter's storage. -/
theorem tickCountsWhileRunning : Obligations.TickCountsWhileRunning := by
  refine fun s hw => ⟨Iff.rfl, fun hrun hl => ?_⟩
  have hc : BitVec.ofNat 16 (s.c.toNat + 1) = s.c + 1 := by
    rw [← count_toNat hw hl, BitVec.ofNat_toNat, BitVec.setWidth_eq]
  rw [takeTurn_eq, turnEffect_tick_count hrun hl, hc]
  exact ⟨rfl, count_toNat hw hl⟩

/-- The fault set after a wrap: with `OVF_LOST` where the previous wrap is pending and the block is not halted
(42_events.md R161). -/
def State.faultsAfterWrap (s : State) : List FaultRecord :=
  if s.ovfPend = true ∧ s.inService ≠ .halt then insertRecord ⟨.ovfLost, .tick⟩ s.faults else s.faults

/-- 42_events.md R161, whether or not a wrap is pending. -/
theorem turnEffect_tick_top {s : State} (hrun : s.run = true) (htop : s.params.maxCount ≤ s.c.toNat) :
    turnEffect .tick s = { s with c := 0, ovfPend := true, faults := s.faultsAfterWrap } := by
  have heff : turnEffect .tick s = tick s := if_pos hrun
  rw [heff, tick, if_pos (by simpa [State.atTop] using htop), State.faultsAfterWrap]
  split <;> rfl

/-- What loses an event, its latch set outside the halt, does not hold where the latch is clear or the block halted. -/
theorem not_lost {pend : Bool} {svc : Service} (h : pend = false ∨ svc = .halt) : ¬ (pend = true ∧ svc ≠ .halt) := by
  obtain rfl | rfl := h
  · exact fun ⟨hp, _⟩ => Bool.false_ne_true hp
  · exact fun ⟨_, hs⟩ => hs rfl

/-- Settles O25: the tick at the top wraps, and the two cases are those of the fault set. -/
theorem tickWrapsAtTheTop : Obligations.TickWrapsAtTheTop := by
  intro s _ hrun htop
  rw [takeTurn_eq, turnEffect_tick_top hrun htop.ge, State.faultsAfterWrap]
  exact ⟨fun hp hs => by rw [if_pos ⟨hp, hs⟩], fun h => by rw [if_neg (not_lost h)]⟩

/-! ### The echo input -/

/-- Settles O26: the edge latches in every state, and the two cases are those of the fault set. -/
theorem edgeIsLatchedInEveryState : Obligations.EdgeIsLatchedInEveryState := by
  intro s
  rw [takeTurn_eq, turnEffect_edgeIn, State.faultsAfterEdge]
  exact ⟨rfl, fun hp hs => by rw [if_pos ⟨hp, hs⟩], fun h => by rw [if_neg (not_lost h)]⟩

/-! ### The host's gate -/

/-- Settles O27: the host's turn at `EI` and at `DI` is the write of the gate, and outside `NONE` the host waits. -/
theorem gateStatementsWriteGie : Obligations.GateStatementsWriteGie := by
  refine fun s => ⟨fun hn hst => ?_, fun hn hst => ?_, fun hs => (hostWaitsDuringService.1 s hs).1⟩
  · have heff : hostEffect s = enableInterrupts s := by simp [hostEffect, hst]
    rw [takeTurn_host_of_stmt hn hst, heff]
    rfl
  · have heff : hostEffect s = disableInterrupts s := by simp [hostEffect, hst]
    rw [takeTurn_host_of_stmt hn hst, heff]
    rfl

end Sys2Proof.Machine
end

section
/-! PROOFS. The host (43_host.md): the distance conversion (R181), and the end of a run as the first state in which it
can end (R184). -/

namespace Sys2Proof.Machine

/-! ### The distance -/

/-- Settles O29: the host's turn at the conversion is `convertDistance`, whose product over 1000 is that of R181. -/
theorem distanceIsExact : Obligations.DistanceIsExact := by
  refine ⟨fun s h hn hst => ?_, fun w => ?_⟩
  · have heff : hostEffect s = convertDistance h s := by simp [hostEffect, hst]
    rw [takeTurn_host_of_stmt hn hst, heff]
    rfl
  · rw [distanceMilli, Nat.cast_mul, Nat.cast_ofNat, mul_div_assoc]

/-! ### The first end of a run -/

section
variable {m n : Nat} {s t u : State}

/-- The run from `s` can end in `t` after `m` steps, and could not end before (43_host.md R184). -/
def FirstEnd (m : Nat) (s t : State) : Prop :=
  runSteps m s = .next t ∧ runEnded t = true ∧ ∀ k, k < m → ∃ u, runSteps k s = .next u ∧ runEnded u = false

/-- A run that can end at once ends at once. -/
theorem firstEnd_of_ended (h : runEnded s = true) : FirstEnd m s t ↔ m = 0 ∧ s = t := by
  constructor
  · rintro ⟨hrun, -, hbefore⟩
    obtain rfl | hpos := m.eq_zero_or_pos
    · exact ⟨rfl, Host.Outcome.next.inj hrun⟩
    · obtain ⟨u, hu, hgoes⟩ := hbefore 0 hpos
      cases hu
      simp [hgoes] at h
  · rintro ⟨rfl, rfl⟩
    exact ⟨rfl, h, fun k hk => absurd hk k.not_lt_zero⟩

theorem not_firstEnd_zero (h : runEnded s = false) : ¬ FirstEnd 0 s t := by
  rintro ⟨hrun, hend, -⟩
  cases hrun
  simp [h] at hend

/-- A run that cannot end yet has the first end of the run from its next state, one step later. -/
theorem firstEnd_succ_of_next (h : runEnded s = false) (hs : step s = .next u) :
    FirstEnd (m + 1) s t ↔ FirstEnd m u t := by
  have hsteps (k : Nat) := runSteps_succ_of_next (n := k) hs
  constructor
  · rintro ⟨hrun, hend, hbefore⟩
    exact ⟨hsteps m ▸ hrun, hend, fun k hk => hsteps k ▸ hbefore (k + 1) (Nat.succ_lt_succ hk)⟩
  · rintro ⟨hrun, hend, hbefore⟩
    refine ⟨(hsteps m).trans hrun, hend, fun k hk => ?_⟩
    cases k with
    | zero => exact ⟨s, rfl, h⟩
    | succ k => exact hsteps k ▸ hbefore k (Nat.lt_of_succ_lt_succ hk)

/-- A run that can neither end nor step has no end. -/
theorem not_firstEnd_of_stuck (h : runEnded s = false) (hs : ∀ u, step s ≠ .next u) : ¬ FirstEnd m s t := by
  cases m with
  | zero => exact not_firstEnd_zero h
  | succ m =>
    rintro ⟨hrun, -⟩
    cases hstep : step s with
    | next u => exact hs u hstep
    | fault | refused => simp [runSteps, hstep] at hrun

/-- `runToEnd` answers the first end. -/
theorem runToEnd_eq_some_iff : runToEnd n s = some t ↔ ∃ m, m ≤ n ∧ FirstEnd m s t := by
  induction n generalizing s with
  | zero =>
    cases h : runEnded s with
    | true => simp [runToEnd_of_ended 0 h, firstEnd_of_ended h]
    | false => simp [runToEnd, h, not_firstEnd_zero h]
  | succ n ih =>
    cases h : runEnded s with
    | true => simp [runToEnd_of_ended (n + 1) h, firstEnd_of_ended h]
    | false =>
      cases hs : step s with
      | next u =>
        rw [runToEnd_succ_of_next h hs, ih]
        constructor
        · rintro ⟨m, hm, ht⟩
          exact ⟨m + 1, Nat.succ_le_succ hm, (firstEnd_succ_of_next h hs).mpr ht⟩
        · rintro ⟨_ | m, hm, ht⟩
          · exact absurd ht (not_firstEnd_zero h)
          · exact ⟨m, Nat.le_of_succ_le_succ hm, (firstEnd_succ_of_next h hs).mp ht⟩
      | fault | refused =>
        have hstuck (m : Nat) : ¬ FirstEnd m s t := not_firstEnd_of_stuck h (by simp [hs])
        simp [runToEnd, h, hs, hstuck]

/-- No first end comes after another: there the run could have ended. -/
theorem FirstEnd.le (ht : FirstEnd m s t) (hu : FirstEnd n s u) : m ≤ n := by
  obtain ⟨-, -, hbefore⟩ := ht
  obtain ⟨hrun, hend, -⟩ := hu
  by_contra hlt
  obtain ⟨v, hv, hgoes⟩ := hbefore n (Nat.lt_of_not_le hlt)
  cases hrun.symm.trans hv
  simp [hgoes] at hend

/-- A run has at most one first end. -/
theorem FirstEnd.unique (ht : FirstEnd m s t) (hu : FirstEnd n s u) : t = u := by
  obtain rfl := Nat.le_antisymm (ht.le hu) (hu.le ht)
  exact Host.Outcome.next.inj (ht.1.symm.trans hu.1)

/-! ### A reset ends a run -/

/-- Where the next turn is an enabled reset, the step is that reset (42_events.md R168, R169). -/
theorem step_of_resetTurn (hr : s.refused = false)
    (ha : s.nextAgent = .por ∨ (s.nextAgent = .wdtReset ∧ s.inService = .halt)) :
    ∃ k, step s = .next (s.passTurn.resetBy k) := by
  obtain hpor | ⟨hwdt, hhalt⟩ := ha
  · exact ⟨.por, by simp [step_eq, hr, hpor, turnEffect, enabled, por]⟩
  · exact ⟨.wdt, step_wdtReset_of_halted ⟨hhalt, hr⟩ hwdt⟩

/-- A run can end just after a reset. -/
theorem runEnded_resetBy (s : State) (k : ResetKind) : runEnded (s.resetBy k) = true := by
  simp [runEnded, State.justReset]

end

/-- Settles O57: `runToEnd` answers the first end, of which a run has at most one, and the state after a reset is an
end. -/
theorem runEndsAtTheFirstEndState : Obligations.RunEndsAtTheFirstEndState := by
  refine ⟨fun n s t => runToEnd_eq_some_iff, fun n m s t u ht hu => ?_, fun s hr hgoes ha => ?_⟩
  · obtain ⟨_, -, ht⟩ := runToEnd_eq_some_iff.mp ht
    obtain ⟨_, -, hu⟩ := runToEnd_eq_some_iff.mp hu
    exact ht.unique hu
  · obtain ⟨k, hstep⟩ := step_of_resetTurn hr ha
    refine ⟨s.passTurn.resetBy k, k, ?_, rfl, (atReset_resetBy _ k).block⟩
    rw [runToEnd_succ_of_next hgoes hstep, runToEnd_of_ended 0 (runEnded_resetBy _ k)]

end Sys2Proof.Machine
end

section
/-! PROOFS. The rules of 60_exceptions.md about a single turn: no step stops with a fault (R200), the refusal (R210,
R214), and the dispatch (R203 to R205) and the bodies (R207, R208) of the two services. -/

namespace Sys2Proof.Machine

/-! ### Faults and refusals -/

/-- Settles O9: a step answers the refusal of a marked state or the next state of its agent's turn. -/
theorem stepNeverStopsWithAFault : Obligations.StepNeverStopsWithAFault := by
  intro s f h
  rw [step_eq] at h
  split at h <;> cases h

/-- After a refusal there is no further step (60_exceptions.md R214). -/
theorem step_of_refused {s : State} (h : s.refused = true) : step s = .refused .refusalMarkSet := by
  rw [step_eq, if_pos h]

/-- Settles O10: every turn of an unmarked state answers a next state. -/
theorem stepIsRefusedExactlyAfterRefusal : Obligations.StepIsRefusedExactlyAfterRefusal := by
  refine fun s => ⟨?_, fun h => ⟨_, step_of_refused h⟩⟩
  rintro ⟨r, hr⟩
  rw [step_eq] at hr
  split at hr
  · assumption
  · cases hr

/-- At `SAT_LIMIT` the overflow body saturates (60_exceptions.md R207). -/
theorem turnEffect_bodyOvf_saturate {s : State} (hs : s.inService = .ovf) (hl : s.params.satLimit ≤ s.e.toNat) :
    turnEffect .bodyOvf s = saturate s := by
  simp [turnEffect, enabled, bodyOvf, hs, hl]

/-- The watchdog-and-halt action (60_exceptions.md R209). -/
theorem saturate_of_watchdogHalt {s : State} (h : s.params.satAction = .watchdogHalt) :
    saturate s = { s with sat := true, trace := s.trace ++ [.satReq], inService := .halt } := by
  rw [saturate, h]
  rfl

/-- 60_exceptions.md R210. -/
theorem saturate_of_otherAction {s : State} (h : s.params.satAction = .other) : saturate s = s.refuse := by
  rw [saturate, h]

/-- Settles O11: the host's turn at an unlisted action and the saturation by another action are each the refusal. -/
theorem unlistedActionsAreRefused : Obligations.UnlistedActionsAreRefused := by
  refine ⟨fun s hn hst => ?_, fun s hs ha hl => ?_, fun s => step_of_refused⟩
  · have heff : hostEffect s = s.refuse := by simp [hostEffect, hst]
    rw [takeTurn_host_of_stmt hn hst, heff]
    rfl
  · rw [takeTurn_eq, turnEffect_bodyOvf_saturate hs hl, saturate_of_otherAction ha]
    rfl

/-! ### The dispatch -/

/-- With the gate closed or a service in progress there is no dispatch (60_exceptions.md R205, R213). -/
theorem mayDispatch_eq_false {s : State} (h : s.gie = false ∨ s.inService ≠ .none) : s.mayDispatch = false := by
  obtain hg | hn := h
  · simp [State.mayDispatch, hg]
  · simp [State.mayDispatch, hn]

/-- A wrap that is not pending or not configured requests nothing (60_exceptions.md R203). -/
theorem irqOvf_eq_false {s : State} (h : s.ovfPend = false ∨ s.ovfEn = false) : s.irqOvf = false :=
  Bool.and_eq_false_iff.mpr h

/-- 60_exceptions.md R205, no overflow being requested. -/
theorem turnEffect_dispatchEdge_of_noOvf {s : State} (hg : s.gie = true) (hn : s.inService = .none)
    (hi : s.irqOvf = false) (he : s.edgePend = true) : turnEffect .dispatchEdge s = dispatchEdge s := by
  simp [turnEffect, enabled, State.mayDispatch, State.irqEdge, hg, hn, hi, he]

/-- Settles O31: each dispatch is enabled by the gate and its request, and the edge's by the absence of the overflow's
besides. -/
theorem dispatchTakesOverflowFirst : Obligations.DispatchTakesOverflowFirst := by
  refine fun s => ⟨fun hg hn => ⟨?_, fun hno => ?_⟩, fun hno => ?_⟩
  · rintro ⟨hp, hen⟩
    rw [takeTurn_eq, turnEffect_dispatchOvf hg hn hen hp]
    exact ⟨rfl, by simp [enabled, State.irqOvf, hp, hen]⟩
  · have hi := irqOvf_eq_false hno
    refine ⟨by simp [enabled, hi], fun he => ?_, fun he => by simp [enabled, State.irqEdge, he]⟩
    rw [takeTurn_eq, turnEffect_dispatchEdge_of_noOvf hg hn hi he]
    rfl
  · simp [enabled, mayDispatch_eq_false hno]

/-! ### The bodies -/

/-- Settles O32: the overflow body's two branches; below `SAT_LIMIT` the sum of words is that of numbers. -/
theorem bodyOvfAddsAQuantumOrSaturates : Obligations.BodyOvfAddsAQuantumOrSaturates := by
  refine ⟨fun s hw hs => ⟨fun hl => ⟨?_, ?_⟩, fun hl ha => ?_⟩, fun s => decide_eq_true_iff, rfl⟩
  · rw [takeTurn_eq, turnEffect_bodyOvf hs hl, BitVec.ofNat_add, BitVec.ofNat_toNat, BitVec.setWidth_eq]
  · rw [← addQuantum_toNat hw hl]
    exact BitVec.isLt _
  · rw [takeTurn_eq, turnEffect_bodyOvf_saturate hs hl, saturate_of_watchdogHalt ha]

/-- A difference of integers modulo 2^32 is the difference of their words. -/
theorem ofInt_sub_toNat (n : Nat) (w : Word) : BitVec.ofInt 32 (n - w.toNat) = BitVec.ofNat 32 n - w := by
  simp [Int.sub_eq_add_neg, BitVec.ofInt_add, BitVec.ofInt_neg, BitVec.sub_eq_add_neg]

/-- Settles O33: the edge body's two branches, `NOW` being the modular sum. -/
theorem bodyEdgeCaptures : Obligations.BodyEdgeCaptures := by
  refine ⟨fun s hs => ⟨fun ha => ?_, fun ha => ?_⟩, fun s => decide_eq_true_iff⟩
  · rw [takeTurn_eq, turnEffect_bodyEdge_start hs ha, s.now_eq_ofNat]
    rfl
  · rw [takeTurn_eq, turnEffect_bodyEdge_end hs ha, ← Int.natCast_add, ofInt_sub_toNat, ← s.now_eq_ofNat]
    rfl

end Sys2Proof.Machine
end

section
/-! PROOFS. The rules of 60_exceptions.md about every step and about runs: the records (R202), the halt (R209, R221), no
nesting (R213), a wrap in the edge service (R222), and the dispatch under fairness (R205). -/

namespace Sys2Proof.Machine

section
variable {s t : State} {a : AgentStep}

/-! ### The records -/

/-- No turn removes a fault (60_exceptions.md R202). -/
theorem TurnCase.faults_subset (hc : TurnCase s a t) : s.faults ⊆ t.faults := by
  cases hc with
  | illegal | unconfigured | wrapLost | edgeLost => exact fun r hr => (mem_insertRecord r _ _).mpr (.inr hr)
  | _ => exact List.Subset.refl _

/-- No turn clears the refusal mark (60_exceptions.md R214). -/
theorem TurnCase.refused_mono (hc : TurnCase s a t) (h : s.refused = true) : t.refused = true := by
  cases hc with
  | unlisted | badAction => rfl
  | _ => exact h

/-- Every turn leaves the trace or appends to it (10_state.md R37). -/
theorem TurnCase.trace_prefix (hc : TurnCase s a t) : s.trace <+: t.trace := by
  cases hc with
  | cmdCfg | cmdStart | cmdStop | cmdClrDone | wrFreq | read | saturate | por | wdt => exact List.prefix_append _ _
  | cmdTrig => exact (List.prefix_append _ _).trans (List.prefix_append _ _)
  | _ => exact List.prefix_refl _

/-- No turn changes the host's program (10_state.md R42). -/
theorem TurnCase.program_eq (hc : TurnCase s a t) : t.program = s.program := by
  cases hc <;> rfl

end

/-- Settles O43: of every turn by the cases of a turn, and of a step as its agent's turn. -/
theorem recordsAreNeverLost : Obligations.RecordsAreNeverLost := by
  refine ⟨fun a s t h => ?_, fun s t h => ?_⟩
  · rw [takeTurn_eq] at h
    cases h
    have hc := turnCase a s
    exact ⟨fun _ hr => hc.faults_subset hr, hc.refused_mono, hc.trace_prefix, hc.params_eq, hc.program_eq⟩
  · have hc := step_turnCase h
    exact ⟨fun _ hr => hc.faults_subset hr, hc.trace_prefix, hc.params_eq, hc.program_eq⟩

/-! ### The halt and the services -/

/-- A turn of a halted block is a reset, or it leaves all but the counter and the two latches as they were
(60_exceptions.md R209, R221). -/
theorem TurnCase.frame_of_halted {s t : State} {a : AgentStep} (hc : TurnCase s a t) (hs : s.inService = .halt) :
    ((a = .por ∨ a = .wdtReset) ∧ ∃ k, t = s.resetBy k) ∨
      ∃ c ovf edge, t = { s with c := c, ovfPend := ovf, edgePend := edge } := by
  cases hc with
  | por => exact .inl ⟨.inl rfl, _, rfl⟩
  | wdt => exact .inl ⟨.inr rfl, _, rfl⟩
  | idle | count | wrap | edge => exact .inr ⟨_, _, _, rfl⟩
  | wrapLost _ _ _ hne | edgeLost _ hne => exact absurd hs hne
  | _ => exact absurd ‹s.inService = _› (by simp [hs])

/-- Settles O35: neither the counter nor a latch is among what has to stay. -/
theorem haltEndsOnlyAtAReset : Obligations.HaltEndsOnlyAtAReset := by
  intro s t hs h
  obtain ⟨ha, k, rfl⟩ | ⟨c, ovf, edge, rfl⟩ := (step_turnCase h).frame_of_halted hs
  · exact .inr ⟨ha, (atReset_resetBy _ k).block, k, rfl⟩
  · exact .inl ⟨hs, rfl, rfl, rfl, rfl, rfl⟩

/-- Settles O36: only the dispatches, the bodies and the resets write `in_service`, and a dispatch needs it to be
`NONE`. -/
theorem servicesDoNotNest : Obligations.ServicesDoNotNest := by
  intro s t hs h
  obtain ⟨a, -, hc⟩ := step_agentCase h
  cases hc with
  | dispatchOvf _ hn | dispatchEdge _ hn => exact absurd hn hs
  | addQuantum | startEdge | endEdge | por | wdt => exact .inr (.inl rfl)
  | saturate hsvc => exact .inr (.inr ⟨hsvc, rfl⟩)
  | _ => exact .inl rfl

/-! ### A wrap in the edge service -/

/-- After a wrap `NOW` is `E` alone. -/
theorem wrap_now (s : State) : s.wrap.now = s.e := by
  simp [State.now]

/-- Settles O49: the tick is a wrap that loses nothing, after which the body reads `NOW` as the old `E`. -/
theorem wrapInTheEdgeServiceIsNotInTheTimestamp : Obligations.WrapInTheEdgeServiceIsNotInTheTimestamp := by
  intro s rest _ hr hs hrun hp htop hsch
  have htick := step_of_turnEffect hr hsch (turnEffect_tick_wrap hrun htop.ge hp)
  have hbody {t : State} (ht : turnEffect .bodyEdge _ = t) : runSteps 2 s = .next t :=
    (runSteps_succ_of_next htick).trans ((runSteps_one _).trans (step_of_turnEffect hr rfl ht))
  cases ha : s.armedEnd with
  | false =>
    exact ⟨_, hbody (turnEffect_bodyEdge_start hs ha), rfl, rfl, fun _ => ⟨wrap_now _, rfl, rfl⟩, nofun⟩
  | true =>
    refine ⟨_, hbody (turnEffect_bodyEdge_end hs ha), rfl, rfl, nofun, fun _ => ⟨?_, rfl, rfl⟩⟩
    rw [ofInt_sub_toNat, BitVec.ofNat_toNat, BitVec.setWidth_eq]
    exact congrArg (· - s.capStart) (wrap_now _)

/-! ### The dispatch under fairness -/

section
variable {s : State} {P Q : State → Prop}

/-- A run that never meets `Q` keeps `P`, where each step from `P` leads to the one or the other. -/
theorem runSteps_of_never (hs : P s) (hstep : ∀ t, P t → ∃ u, step t = .next u ∧ (Q u ∨ P u))
    (hno : ∀ n t, runSteps n s = .next t → ¬ Q t) (n : Nat) : ∃ t, runSteps n s = .next t ∧ P t := by
  induction n with
  | zero => exact ⟨s, rfl, hs⟩
  | succ n ih =>
    obtain ⟨t, hrun, ht⟩ := ih
    obtain ⟨u, hu, h⟩ := hstep t ht
    have hrun' := runSteps_snoc hrun hu
    exact ⟨u, hrun', h.resolve_left (hno _ _ hrun')⟩

/-- The rule of weak fairness: where `P` holds until `Q` does, one of the forms of the step is enabled while `P` holds,
and taking an enabled one leads to `Q`, a run that is weakly fair to the step reaches `Q`. -/
theorem WeaklyFair.reaches {steps : List AgentStep} (hfair : WeaklyFair steps s) (hs : P s)
    (hstep : ∀ t, P t → ∃ u, step t = .next u ∧ (Q u ∨ P u)) (hen : ∀ t, P t → anyEnabled steps t = true)
    (htaken : ∀ t u, t.nextAgent ∈ steps → enabled t.nextAgent t = true → step t = .next u → Q u) :
    ∃ n t, runSteps n s = .next t ∧ Q t := by
  by_contra hnever
  have hno : ∀ n t, runSteps n s = .next t → ¬ Q t := fun n t hrun hq => hnever ⟨n, t, hrun, hq⟩
  have hkeeps := runSteps_of_never hs hstep hno
  obtain ⟨m, -, t, hrun, hmem, hena⟩ := hfair 0 fun m _ =>
    (hkeeps m).imp fun t ⟨hrun, ht⟩ => ⟨hrun, hen t ht⟩
  obtain ⟨t', hrun', ht⟩ := hkeeps m
  cases hrun.symm.trans hrun'
  obtain ⟨u, hu, -⟩ := hstep t ht
  exact hno _ _ (runSteps_snoc hrun hu) (htaken t u hmem hena hu)

end

/-- A request is asserted, the gate is open and no service is in progress, and the host is at its end: nothing but a
dispatch or a reset is left that could withdraw the request. The trace is `tr`. -/
structure AwaitsDispatch (tr : List Event) (s : State) : Prop where
  notRefused : s.refused = false
  gateOpen : s.gie = true
  noService : s.inService = .none
  hostAtEnd : s.hostAtEnd = true
  requested : (s.irqOvf || s.irqEdge) = true
  traceKept : s.trace = tr

/-- A service is in progress, or the trace `tr` has grown by exactly a reset. -/
def DispatchedOrReset (tr : List Event) (s : State) : Prop :=
  s.inService = .ovf ∨ s.inService = .edge ∨ ∃ k, s.trace = tr ++ [.reset k]

section
variable {s t : State} {a : AgentStep} {tr : List Event}

theorem stmt_of_hostAtEnd (h : s.hostAtEnd = true) : s.stmt = none :=
  List.getElem?_eq_none (of_decide_eq_true h)

/-- A wrap is pending after it, so a request stays asserted. -/
theorem requested_wrap (h : (s.irqOvf || s.irqEdge) = true) : (s.wrap.irqOvf || s.wrap.irqEdge) = true := by
  simp only [State.irqOvf, State.irqEdge, Bool.or_eq_true, Bool.and_eq_true] at h ⊢
  exact h.imp_left fun ⟨_, hen⟩ => ⟨rfl, hen⟩

/-- A turn of a state that awaits a dispatch is one, or a reset, or leaves the state awaiting it: the host has no
statement, and no body is enabled. -/
theorem TurnCase.of_awaitsDispatch (hc : TurnCase s a t) (h : AwaitsDispatch tr s) :
    DispatchedOrReset tr t ∨ AwaitsDispatch tr t := by
  have hst := stmt_of_hostAtEnd h.hostAtEnd
  have hn := h.noService
  cases hc with
  | dispatchOvf => exact .inl (.inl rfl)
  | dispatchEdge => exact .inl (.inr (.inl rfl))
  | por | wdt => exact .inl (.inr (.inr ⟨_, congrArg (· ++ _) h.traceKept⟩))
  | idle | count => exact .inr { h with }
  | wrap | wrapLost => exact .inr { h with requested := requested_wrap h.requested }
  | edge | edgeLost => exact .inr { h with requested := Bool.or_true _ }
  | addQuantum hsvc | saturate hsvc | badAction hsvc | startEdge hsvc | endEdge hsvc => simp [hn] at hsvc
  | _ => exact absurd ‹s.stmt = _› (by simp [hst])

/-- A state that awaits a dispatch takes its next step. -/
theorem step_of_awaitsDispatch (h : AwaitsDispatch tr s) :
    ∃ t, step s = .next t ∧ (DispatchedOrReset tr t ∨ AwaitsDispatch tr t) := by
  have hp : AwaitsDispatch tr s.passTurn := { h with }
  exact ⟨_, by rw [step_eq, h.notRefused]; rfl, (turnCase s.nextAgent s.passTurn).of_awaitsDispatch hp⟩

/-- A state that awaits a dispatch has it enabled in one of its forms (60_exceptions.md R205). -/
theorem anyEnabled_of_awaitsDispatch (h : AwaitsDispatch tr s) : anyEnabled dispatchSteps s = true := by
  rw [anyEnabled_dispatchSteps]
  simp [State.mayDispatch, h.gateOpen, h.noService, h.requested]

/-- The step that takes an enabled dispatch enters its service. -/
theorem dispatched_of_step (ha : s.nextAgent ∈ dispatchSteps) (hen : enabled s.nextAgent s = true)
    (h : step s = .next t) : t.inService = .ovf ∨ t.inService = .edge := by
  obtain ⟨-, rfl⟩ := step_next h
  simp only [dispatchSteps, List.mem_cons, List.not_mem_nil, or_false] at ha
  obtain ha | ha := ha
  all_goals rw [ha] at hen ⊢
  · exact .inl (congrArg State.inService (if_pos hen))
  · exact .inr (congrArg State.inService (if_pos hen))

end

/-- Settles O56: until a dispatch or a reset the request stays asserted, which keeps a dispatch enabled in one of its
forms, so that by fairness one is taken. -/
theorem requestedServiceIsDispatched : Obligations.RequestedServiceIsDispatched := by
  intro s hr hg hn hend hreq hfair
  refine hfair.reaches (P := AwaitsDispatch s.trace) (Q := DispatchedOrReset s.trace) ⟨hr, hg, hn, hend, hreq, rfl⟩
    (fun t => step_of_awaitsDispatch) (fun t => anyEnabled_of_awaitsDispatch) fun t u hmem hen hu => ?_
  exact (dispatched_of_step hmem hen hu).imp_right .inl

end Sys2Proof.Machine
end

section
/-! PROOFS. The rules of 70_reset_and_hazards.md: the two resets (R250), the launch state (R251) and its stability
(R254), and the hazards of a pending wrap under a closed gate (R257) and of a stale edge (R258). -/

namespace Sys2Proof.Machine

/-! ### Reset -/

/-- Settles O37: the turns of `POR` and, in `HALT`, of the watchdog are the writes of `resetBy`. -/
theorem resetClearsAllButTheRecords : Obligations.ResetClearsAllButTheRecords := by
  refine fun s => ⟨takeTurn_eq .por s, fun hs => ?_, fun hs => by simp [enabled, hs]⟩
  have heff : turnEffect .wdtReset s = s.resetBy .wdt := if_pos (by simp [enabled, hs])
  rw [takeTurn_eq, heff]
  rfl

/-- The launch state is as a reset leaves the block and the gate (70_reset_and_hazards.md R251). -/
theorem atReset_launch : AtReset State.reset := ⟨rfl, rfl⟩

/-- Settles O38: beyond the block and the gate the launch state has its fields as written. -/
theorem launchStateIsTheResetState : Obligations.LaunchStateIsTheResetState :=
  ⟨atReset_launch.block, atReset_launch.gateClosed, rfl, rfl, rfl, rfl, rfl⟩

/-- As a reset leaves the block and the gate, no agent but the echo input, `POR` and the host has a step: the clock does
not run, the gate is closed and no service is in progress (70_reset_and_hazards.md R254). -/
theorem AtReset.enabled_eq_false {s : State} {a : AgentStep} (h : AtReset s) (hedge : a ≠ .edgeIn) (hpor : a ≠ .por)
    (hhost : a ≠ .host) : enabled a s = false := by
  have hrun : s.run = false := congrArg Block.run h.block
  have hn : s.inService = .none := congrArg Block.inService h.block
  cases a with
  | tick => exact hrun
  | dispatchOvf | dispatchEdge => simp [enabled, mayDispatch_eq_false (.inl h.gateClosed)]
  | bodyOvf | bodyEdge | wdtReset => simp [enabled, hn]
  | edgeIn => exact absurd rfl hedge
  | por => exact absurd rfl hpor
  | host => exact absurd rfl hhost

/-- Settles O39: the launch state is one that a reset leaves, and the edge latched in it meets a closed gate. -/
theorem resetStateIsStable : Obligations.ResetStateIsStable := by
  refine ⟨fun a => atReset_launch.enabled_eq_false, _, takeTurn_eq .edgeIn State.reset, ?_, ?_⟩
  · rw [turnEffect_edgeIn, faultsAfterEdge_of_noEdge rfl]
  · exact ((dispatchTakesOverflowFirst _).2 (.inl rfl)).2

/-! ### A pending wrap under a closed gate -/

/-- With the gate closed, no service in progress and a wrap pending, no turn but the host's and `POR`'s changes any of
these: a tick and an edge only set latches, and neither dispatch, body nor watchdog has a step. -/
theorem TurnCase.keeps_pendingWrap {s t : State} {a : AgentStep} (hc : TurnCase s a t) (hg : s.gie = false)
    (hn : s.inService = .none) (hp : s.ovfPend = true) (hhost : a ≠ .host) (hpor : a ≠ .por) :
    t.ovfPend = true ∧ t.gie = false ∧ t.inService = .none := by
  cases hc with
  | idle | count | edge | edgeLost => exact ⟨hp, hg, hn⟩
  | wrap | wrapLost => exact ⟨rfl, hg, hn⟩
  | dispatchOvf hopen | dispatchEdge hopen => simp [hg] at hopen
  | addQuantum hsvc | saturate hsvc | badAction hsvc | startEdge hsvc | endEdge hsvc | wdt hsvc => simp [hn] at hsvc
  | por => exact absurd rfl hpor
  | _ => exact absurd rfl hhost

/-- Settles O54: a step is its agent's turn, by `TurnCase.keeps_pendingWrap`. -/
theorem closedGateKeepsAPendingWrap : Obligations.ClosedGateKeepsAPendingWrap :=
  fun _ _ hg hn hp hhost hpor h => (step_turnCase h).keeps_pendingWrap hg hn hp hhost hpor

/-! ### A stale edge -/

/-- Settles O50: `CMD TRIG` zeroes the clock, clears `ARMED_END` and leaves the latched edge, so the edge's body takes
it as the start edge at `NOW = 0`. -/
theorem staleEdgeIsTakenAsTheStartEdge : Obligations.StaleEdgeIsTakenAsTheStartEdge := by
  intro s rest dst hr hn hg hen he hst hs
  obtain ⟨hdecode, hexec⟩ := cmdTrigRestartsTheClock
  have htrig := (hexec { s with schedule := .dispatchEdge :: .bodyEdge :: rest, turn := s.turn + 1 } hn).1 hen
  have hrun := runSteps_three (step_of_exec hr hs hst hdecode htrig)
    (step_of_turnEffect hr rfl (turnEffect_dispatchEdge hg hn rfl he))
    (step_of_turnEffect hr rfl (turnEffect_bodyEdge_start rfl rfl))
  exact ⟨_, hrun, rfl, rfl, rfl, rfl, rfl, rfl⟩

end Sys2Proof.Machine
end
